-- ==== Sys2Proof/Word.lean ====
section
/-! DEFINITION. The word and byte types of the Series 16 (R6, R20, R50): every register of the programmer's
model and every memory location is a 16-bit word; a byte is half of a word and exists only as the unit in which
the host's memory cells are written down (assumption 2). -/

namespace Sys2Proof

/-- A 16-bit word (R6). The card numbers its bits 1 (most significant, the sign) to 16 (least significant). -/
abbrev Word := BitVec 16

/-- Half of a word: the unit of the host's memory cells (assumption 2). -/
abbrev Byte := BitVec 8

end Sys2Proof
end

