-- ==== Sys2Proof/Config.lean ====
section
/-! DEFINITION. What an implementation fixes (the parameters of R5), what the environment is asked (R240, R272,
R33, R35), and the free values: constants without a body, so that a claim holds whatever they are. -/

namespace Sys2Proof

/-- The five options of R3. -/
inductive OptionName where
  | indexLdxStx          -- HAS_INDEX_LDX_STX: LDX, STX
  | highSpeedArithmetic  -- HAS_HSA: MPY, DIV, NRM, SCA, SGL, DBL and the double precision forms
  | extendedAddressing   -- HAS_EXTENDED_ADDRESSING: EXA, DXA
  | memoryLockout        -- HAS_MEMORY_LOCKOUT: ERM
  | memoryParity         -- HAS_MEMORY_PARITY: RMP, SPN, SPS
  deriving DecidableEq, Repr

/-- `SHIFT_FIELD_ZERO_COUNT` (R5, R161): what a shift word with count field 0 does. `refuse`, `noPlaces` (0) and
`sixtyFour` (64) are the spec's values; `undecided` is the model's own: the word shifts 0 or 64 places, and which
of the two is the free constant `Config.zeroFieldShifts64` (assumption 8). -/
inductive ShiftFieldZero where
  | refuse | noPlaces | sixtyFour | undecided
  deriving DecidableEq, Repr

/-- `MPY_MIN_MIN` (R137): the result of the product of the two least numbers. `draws`, the spec's default, leaves A, B
and C free; `values` gives A, B and C, or with no `c` leaves C as it was. -/
inductive MpyMinMin where
  | draws
  | values (a b : Word) (c : Option Bool)
  deriving DecidableEq, Repr

/-- `DIV_FN` at the one point R139 leaves to it, the quotient -32768. `undecided` is the model's own: proper or
improper, and which of the two is the free function `Config.divMinImproper` of the operands (assumption 10). -/
inductive DivMinQuotient where
  | refuse | proper | improper | undecided
  deriving DecidableEq, Repr

/-- How `DIV_FN` rounds a quotient, and with it the sign of the remainder (U12). `towardZero`, the remainder of the
dividend's sign, is the spec's default (R139); the others are the two further integer divisions: the remainder of the
divisor's sign, and the remainder never negative (assumption 9). -/
inductive DivRounding where
  | towardZero | floor | euclidean
  deriving DecidableEq, Repr

/-- What `DIV_FN` answers for one dividend and one divisor: quotient and remainder, or `none` for improper. -/
structure DivEntry where
  dividend : BitVec 31
  divisor : Word
  result : Option (Int × Int)
  deriving DecidableEq, Repr

/-- `DIV_FN` (R139, U12) as plain data: a rounding, what happens at the quotient -32768, and a list of operands
answered apart from these. The operands are finitely many, so every function of a divisor that is not zero has this
form; zero is improper by R138. -/
structure DivFn where
  rounding : DivRounding
  atLimit : DivMinQuotient
  exceptions : List DivEntry
  deriving DecidableEq, Repr

/-- `NRM_FN`'s limit of R176, which matters for a number of all zeros or all ones. `limit n` runs the loop of R176
with `NRM_LIMIT = n`; `undecided`, the model's own, runs it, on such a number, with the free constant
`Config.nrmLimit` (assumption 11). -/
inductive NrmLimit where
  | refuse | limit (n : Nat) | undecided
  deriving DecidableEq, Repr

/-- What NRM leaves in SC of the number k of places: k, the spec's default, or its complement (R176, U8). The spec does
not say which complement (assumption 27). -/
inductive NrmCount where
  | places | onesComplement | twosComplement
  deriving DecidableEq, Repr

/-- What NRM leaves in C (R176, U8): a free bit, the spec's default, a fixed bit, or what C held. -/
inductive NrmCarry where
  | draws | fixed (c : Bool) | kept
  deriving DecidableEq, Repr

/-- `NRM_FN` (R176): the three points the rule leaves to the parameter. -/
structure NrmFn where
  limit : NrmLimit
  count : NrmCount
  carry : NrmCarry
  deriving DecidableEq, Repr

/-- The parameters of R5, fixed for one run (R291 makes them arguments of the launch). -/
structure Parameters where
  /-- `MEM_WORDS`: words of memory installed, addresses `0 .. memWords - 1` (R5, R54). -/
  memWords : Nat
  /-- `HAS_INDEX_LDX_STX` (R3). -/
  hasIndexLdxStx : Bool
  /-- `HAS_HSA` (R3). -/
  hasHsa : Bool
  /-- `HAS_EXTENDED_ADDRESSING` (R3). -/
  hasExtendedAddressing : Bool
  /-- `HAS_MEMORY_LOCKOUT` (R3). -/
  hasMemoryLockout : Bool
  /-- `HAS_MEMORY_PARITY` (R3). -/
  hasMemoryParity : Bool
  /-- `SHIFT_FIELD_ZERO_COUNT` (R161). -/
  shiftFieldZero : ShiftFieldZero
  /-- `INT_VECTOR` (R274). -/
  intVector : Word
  /-- `START_ADDRESS` (R291). -/
  startAddress : Word
  /-- `MPY_MIN_MIN` (R137). -/
  mpyMinMin : MpyMinMin
  /-- `DIV_FN` (R139). -/
  divFn : DivFn
  /-- `NRM_FN` (R176). -/
  nrmFn : NrmFn
  /-- The device codes that nothing answers (R240): such a device is never ready and never senses true. -/
  unansweredDevices : List (BitVec 6)
  deriving DecidableEq, Repr

/-- The bounds R5 sets on the parameters: `1 <= MEM_WORDS <= 2^15`, and `<= 2^14` without extended addressing;
the two addresses are addresses of the address space so given (`INT_VECTOR` of 14 bits, since an entry is refused with
extended addressing, R274). -/
def Parameters.wf (q : Parameters) : Bool :=
  decide (1 ≤ q.memWords) && decide (q.memWords ≤ 2 ^ 15)
    && (q.hasExtendedAddressing || decide (q.memWords ≤ 2 ^ 14))
    && decide (q.intVector.toNat < 2 ^ 14) && decide (q.startAddress.toNat < 2 ^ 15)
    && (q.hasExtendedAddressing || decide (q.startAddress.toNat < 2 ^ 14))

/-- The four sense switches of R35, each on (`true`) or off. -/
structure SenseSwitches where
  s1 : Bool
  s2 : Bool
  s3 : Bool
  s4 : Bool
  deriving DecidableEq, Repr

/-- One call to the environment of R240, with its answer, as the run's event history records it. -/
inductive IoEvent where
  | ocp (f : BitVec 4) (d : BitVec 6)
  | sks (f : BitVec 4) (d : BitVec 6) (sense : Bool)
  | ina (f : BitVec 4) (d : BitVec 6) (ready : Bool) (data : Word)
  | ota (f : BitVec 4) (d : BitVec 6) (v : Word) (ready : Bool)
  | smk (d : BitVec 6) (v : Word)
  deriving DecidableEq, Repr

/-- Answers of the environment that a launch fixes as a premise (R240, R272, R33): each list is used up from its
front, one entry a question, and a question that finds its list empty is answered by a free value (assumption 6).
Empty lists, as after reset, fix nothing. -/
structure Script where
  /-- answers to `IoSks` -/
  sense : List Bool
  /-- answers to `IoIna`: ready, and the word on the input bus -/
  input : List (Bool × Word)
  /-- answers to `IoOta` -/
  output : List Bool
  /-- answers to `IntRequest` -/
  interrupt : List Bool
  /-- whether a memory read found bad parity -/
  parity : List Bool
  deriving DecidableEq, Repr

/-- No answer fixed. -/
def Script.free : Script := { sense := [], input := [], output := [], interrupt := [], parity := [] }

namespace Config

/-! ### Free values (`draw` of R9). The `Nat` is the number of draws made before, `State.draws`. -/

/-- `draw(16 bits)`: A and B after an improper divide (R138) or the product of the two least numbers (R137). -/
opaque freeWord : Nat → Word

/-- `draw(5 bits)`: SC after a shift instruction (R162). -/
opaque freeShiftCount : Nat → BitVec 5

/-- `draw(1 bit)`: C after NRM (R176) or after the product of the two least numbers (R137). -/
opaque freeBit : Nat → Bool

/-- The sense switch (numbered 1 to 4) at a test that no launch premise fixes (R35, R207). -/
opaque switchOn : Nat → Nat → Bool

/-- `IoSks` (R240): a free answer, of the history so far and the code sent. -/
opaque senseAnswer : Nat → List IoEvent → BitVec 4 → BitVec 6 → Bool

/-- `IoIna` (R240): whether the device is ready. -/
opaque inputReady : Nat → List IoEvent → BitVec 4 → BitVec 6 → Bool

/-- `IoIna` (R240): the word on the input bus. -/
opaque inputData : Nat → List IoEvent → BitVec 4 → BitVec 6 → Word

/-- `IoOta` (R240): whether the device is ready. -/
opaque outputReady : Nat → List IoEvent → BitVec 4 → BitVec 6 → Word → Bool

/-- `IntRequest` (R272): no law. -/
opaque interruptRequest : Nat → List IoEvent → Bool

/-- Whether the memory hardware finds bad parity at a read of an address (R33, R55). -/
opaque parityError : Nat → Word → Bool

/-! ### Free constants: what a parameter's value `undecided` stands for. -/

/-- Whether a shift word with count field 0 shifts 64 places, rather than none (R161). -/
opaque zeroFieldShifts64 : Bool

/-- Whether the division of the dividend by the divisor, whose quotient is -32768, is improper (R139). -/
opaque divMinImproper : BitVec 31 → Word → Bool

/-- `NRM_LIMIT` for a number of all zeros or all ones (R176). -/
opaque nrmLimit : Nat

end Config

end Sys2Proof
end

