-- ==== Sys2Proof/Syntax.lean ====
section
/-! DEFINITION. The instructions: one constructor for each of the 88 rows of spec/opcode_table.json, in the
table's order, with the operand fields of the formats of R73 to R76. -/

namespace Sys2Proof

/-- The operand fields of a memory-reference word (R73): the indirect address bit I, the index bit T, the sector
bit S and the 9-bit address D within the sector. -/
structure MemRef where
  indirect : Bool
  indexed : Bool
  sector : Bool
  disp : BitVec 9
  deriving DecidableEq, Repr

/-- The operand fields of LDX and STX (R78): their index bit selects the instruction, so it is no field. -/
structure XRef where
  indirect : Bool
  sector : Bool
  disp : BitVec 9
  deriving DecidableEq, Repr

/-- The ten bits an input/output instruction sends (R74, R85): the function code F and the device code D. -/
structure IoCode where
  f : BitVec 4
  d : BitVec 6
  deriving DecidableEq, Repr

/-- The two interrupt masks that SMK can set (R79, R247): device code '20 is MASK, '24 is MASK2. -/
inductive MaskGroup where
  | mask | mask2
  deriving DecidableEq, Repr

/-- The instruction set. The comment beside a constructor names the rule with its meaning; the field `nf` of a
shift is the count field NF of R75, not the number of places (R84). -/
inductive Instr where
  | jmp (m : MemRef)  -- R181
  | lda (m : MemRef)  -- R101
  | dld (m : MemRef)  -- R102
  | ana (m : MemRef)  -- R150
  | sta (m : MemRef)  -- R103
  | dst (m : MemRef)  -- R104
  | era (m : MemRef)  -- R151
  | add (m : MemRef)  -- R132
  | dad (m : MemRef)  -- R133
  | sub (m : MemRef)  -- R134
  | dsb (m : MemRef)  -- R135
  | jst (m : MemRef)  -- R182
  | cas (m : MemRef)  -- R180
  | irs (m : MemRef)  -- R184
  | ima (m : MemRef)  -- R110
  | stx (x : XRef)  -- R106
  | ldx (x : XRef)  -- R105
  | mpy (m : MemRef)  -- R136
  | div (m : MemRef)  -- R138
  | ocp (code : IoCode)  -- R241
  | sks (code : IoCode)  -- R242
  | ina (code : IoCode)  -- R243
  | ota (code : IoCode)  -- R244
  | smk (group : MaskGroup)  -- R247
  | otk  -- R228
  | lrl (nf : BitVec 6)  -- R175
  | lrs (nf : BitVec 6)  -- R171
  | lrr (nf : BitVec 6)  -- R173
  | lgr (nf : BitVec 6)  -- R168
  | ars (nf : BitVec 6)  -- R164
  | arr (nf : BitVec 6)  -- R166
  | lll (nf : BitVec 6)  -- R174
  | lls (nf : BitVec 6)  -- R170
  | llr (nf : BitVec 6)  -- R172
  | lgl (nf : BitVec 6)  -- R167
  | als (nf : BitVec 6)  -- R163
  | alr (nf : BitVec 6)  -- R165
  | hlt  -- R220
  | sgl  -- R229
  | dbl  -- R230
  | dxa  -- R232
  | exa  -- R231
  | rmp  -- R234
  | sca  -- R108
  | ink  -- R227
  | nrm  -- R176
  | iab  -- R107
  | enb  -- R225
  | inh  -- R226
  | erm  -- R233
  | chs  -- R156
  | cra  -- R100
  | ssp  -- R155
  | rcb  -- R223
  | csa  -- R153
  | cma  -- R152
  | tca  -- R142
  | ssm  -- R154
  | scb  -- R224
  | car  -- R121
  | cal  -- R120
  | icl  -- R123
  | aoa  -- R141
  | aca  -- R140
  | icr  -- R124
  | ica  -- R122
  | skp  -- R185
  | nop  -- R221
  | spl  -- R186
  | smi  -- R187
  | sze  -- R188
  | snz  -- R189
  | slz  -- R190
  | sln  -- R191
  | src  -- R192
  | ssc  -- R193
  | sr1  -- R194
  | sr2  -- R199
  | sr3  -- R195
  | sr4  -- R196
  | ssr  -- R197
  | ss1  -- R200
  | ss2  -- R201
  | ss3  -- R202
  | ss4  -- R203
  | sss  -- R204
  | spn  -- R205
  | sps  -- R206
  deriving DecidableEq, Repr

end Sys2Proof
end

