-- ==== Sys2Proof/WellFormed.lean ====
section
/-! DEFINITION. Which terms of `Instr` some word of the machine stands for. The field widths are in the types; one
check is left, the device code of OTA (R79). -/

namespace Sys2Proof

/-- Device code '20: the processor's own mask and keys logic (R245). -/
def maskDevice : BitVec 6 := 0o20#6

/-- Device code '24: the second mask group (R79). -/
def mask2Device : BitVec 6 := 0o24#6

/-- R79: a word of op code '74 whose device code is '20 or '24 is never OTA. -/
def Instr.wf : Instr → Bool
  | .ota code => decide (code.d ≠ maskDevice) && decide (code.d ≠ mask2Device)
  | _ => true

/-- R77: the value of DP under which the decoder selects the instruction; `none` where DP does not matter. -/
def Instr.dpForm : Instr → Option Bool
  | .lda _ | .sta _ | .add _ | .sub _ => some false
  | .dld _ | .dst _ | .dad _ | .dsb _ => some true
  | _ => none

/-- The instruction is one the decoder can select when double precision mode is `dp` (R77). -/
def Instr.selectedBy (i : Instr) (dp : Bool) : Bool :=
  match i.dpForm with
  | none => true
  | some form => form == dp

end Sys2Proof
end

