-- ==== Sys2Proof/Decode.lean ====
section
/-! DEFINITION. The decoder (R70 to R79, R86 to R91): total on every word, one name for what it rejects, its
choice of the double precision forms made by the DP mode it is given. After it the encoder, written from the same
tables. -/

namespace Sys2Proof

/-! ### Fields of a word, in the card's bit numbers (R6, R9) -/

/-- `bit(v, i)` of R9: the card's bit `i` of `v`, 1 the most significant and 16 the least. -/
def bit (v : Word) (i : Nat) : Bool := v.getLsbD (16 - i)

/-- Bits 1 and 2 of a word (R71): the group of a word whose op code field is '00 or '14. -/
def fieldHi2 (w : Word) : BitVec 2 := w.extractLsb' 14 2

/-- The op code field, bits 3 to 6 (R71, R73). -/
def fieldOp (w : Word) : BitVec 4 := w.extractLsb' 10 4

/-- The address field D of a memory-reference word, bits 8 to 16 (R73). -/
def fieldD (w : Word) : BitVec 9 := w.extractLsb' 0 9

/-- The operand fields of a memory-reference word (R73). -/
def fieldMemRef (w : Word) : MemRef :=
  { indirect := bit w 1, indexed := bit w 2, sector := bit w 7, disp := fieldD w }

/-- The operand fields of LDX and STX (R73, R78). -/
def fieldXRef (w : Word) : XRef := { indirect := bit w 1, sector := bit w 7, disp := fieldD w }

/-- The function and device code of an input/output word, bits 7 to 10 and 11 to 16 (R74). -/
def fieldIo (w : Word) : IoCode := { f := w.extractLsb' 6 4, d := w.extractLsb' 0 6 }

/-- The kind of a shift, bits 9 and 10 (R75). -/
def fieldK (w : Word) : BitVec 2 := w.extractLsb' 6 2

/-- The count field of a shift, bits 11 to 16 (R75, R84). -/
def fieldNF (w : Word) : BitVec 6 := w.extractLsb' 0 6

/-! ### The decoder -/

/-- Why a word is no instruction. -/
inductive DecodeReject where
  /-- The word matches no row of the opcode table (R91). -/
  | unlistedEncoding (w : Word)
  deriving DecidableEq, Repr

/-- The generic words of the group '000xxx (R87). -/
def lowGenericWords : List (Word × Instr) :=
  [(0x0000, .hlt), (0x0005, .sgl), (0x0007, .dbl), (0x0009, .dxa), (0x000B, .exa), (0x0011, .rmp),
   (0x0021, .sca), (0x0023, .ink), (0x0041, .nrm), (0x0081, .iab), (0x0101, .enb), (0x0201, .inh),
   (0x0301, .erm)]

/-- The generic words of the group '14xxxx (R87). -/
def highGenericWords : List (Word × Instr) :=
  [(0xC014, .chs), (0xC020, .cra), (0xC040, .ssp), (0xC080, .rcb), (0xC0D0, .csa), (0xC101, .cma),
   (0xC107, .tca), (0xC140, .ssm), (0xC180, .scb), (0xC224, .car), (0xC228, .cal), (0xC260, .icl),
   (0xC286, .aoa), (0xC28E, .aca), (0xC2A0, .icr), (0xC2E0, .ica)]

/-- The skip group '10xxxx (R88). -/
def skipWords : List (Word × Instr) :=
  [(0x8000, .skp), (0x8200, .nop), (0x8100, .spl), (0x8300, .smi), (0x8020, .sze), (0x8220, .snz),
   (0x8040, .slz), (0x8240, .sln), (0x8001, .src), (0x8201, .ssc), (0x8010, .sr1), (0x8008, .sr2),
   (0x8004, .sr3), (0x8002, .sr4), (0x801E, .ssr), (0x8210, .ss1), (0x8208, .ss2), (0x8204, .ss3),
   (0x8202, .ss4), (0x821E, .sss), (0x8080, .spn), (0x8280, .sps)]

/-- The instruction a table of whole words lists for `w`. -/
def lookupWord (table : List (Word × Instr)) (w : Word) : Option Instr :=
  (table.find? fun row => row.1 == w).map Prod.snd

/-- Memory-reference words by op code (R86), the index bit of op code '15 (R78) and the mode DP (R77). -/
def decodeMr (dp : Bool) (w : Word) : Option Instr :=
  match (fieldOp w).toNat with
  | 0o01 => some (.jmp (fieldMemRef w))
  | 0o02 => some (if dp then .dld (fieldMemRef w) else .lda (fieldMemRef w))
  | 0o03 => some (.ana (fieldMemRef w))
  | 0o04 => some (if dp then .dst (fieldMemRef w) else .sta (fieldMemRef w))
  | 0o05 => some (.era (fieldMemRef w))
  | 0o06 => some (if dp then .dad (fieldMemRef w) else .add (fieldMemRef w))
  | 0o07 => some (if dp then .dsb (fieldMemRef w) else .sub (fieldMemRef w))
  | 0o10 => some (.jst (fieldMemRef w))
  | 0o11 => some (.cas (fieldMemRef w))
  | 0o12 => some (.irs (fieldMemRef w))
  | 0o13 => some (.ima (fieldMemRef w))
  | 0o15 => some (if bit w 2 then .ldx (fieldXRef w) else .stx (fieldXRef w))
  | 0o16 => some (.mpy (fieldMemRef w))
  | 0o17 => some (.div (fieldMemRef w))
  | _ => none

/-- Shift words by the fields L, N and K (R75, R89); bits 3 to 6 are 0 here, and K = 3 is not listed. -/
def decodeShift (w : Word) : Option Instr :=
  match bit w 7, bit w 8, fieldK w with
  | false, false, 0 => some (.lrl (fieldNF w))
  | false, false, 1 => some (.lrs (fieldNF w))
  | false, false, 2 => some (.lrr (fieldNF w))
  | false, true, 0 => some (.lgr (fieldNF w))
  | false, true, 1 => some (.ars (fieldNF w))
  | false, true, 2 => some (.arr (fieldNF w))
  | true, false, 0 => some (.lll (fieldNF w))
  | true, false, 1 => some (.lls (fieldNF w))
  | true, false, 2 => some (.llr (fieldNF w))
  | true, true, 0 => some (.lgl (fieldNF w))
  | true, true, 1 => some (.als (fieldNF w))
  | true, true, 2 => some (.alr (fieldNF w))
  | _, _, _ => none

/-- Words of op code '74 (R79): SMK, OTK or OTA by the device and the function code. -/
def decodeOutput (w : Word) : Option Instr :=
  if (fieldIo w).d = maskDevice then
    if (fieldIo w).f = 0o00 then some (.smk .mask)
    else if (fieldIo w).f = 0o10 then some .otk else none
  else if (fieldIo w).d = mask2Device then
    if (fieldIo w).f = 0o00 then some (.smk .mask2) else none
  else some (.ota (fieldIo w))

/-- Input/output words by bits 1 and 2 (R71, R90). -/
def decodeIo (w : Word) : Option Instr :=
  match fieldHi2 w with
  | 0 => some (.ocp (fieldIo w))
  | 1 => some (.sks (fieldIo w))
  | 2 => some (.ina (fieldIo w))
  | _ => decodeOutput w

/-- Words whose bits 3 to 6 are 0, by bits 1 and 2 (R71). -/
def decodeZeroOp (w : Word) : Option Instr :=
  match fieldHi2 w with
  | 0 => lookupWord lowGenericWords w
  | 1 => decodeShift w
  | 2 => lookupWord skipWords w
  | _ => lookupWord highGenericWords w

/-- The row of the opcode table that `w` fits when double precision mode is `dp`, if any (R71, R72). -/
def decodeRow (dp : Bool) (w : Word) : Option Instr :=
  if fieldOp w = 0o00 then decodeZeroOp w
  else if fieldOp w = 0o14 then decodeIo w
  else decodeMr dp w

/-- `decode(w)` of R72, in the mode DP. Every word that fits no row is rejected by name (R91). -/
def decode (dp : Bool) (w : Word) : Except DecodeReject Instr :=
  match decodeRow dp w with
  | some i => .ok i
  | none => .error (.unlistedEncoding w)

/-- The decoder on a table row's word, in the mode DP = 0 of reset (R41). An instruction is one 16-bit word (R70);
the bits of `w` from `nbits` on count as 0. The words of LDA, STA, ADD and SUB are also those of DLD, DST, DAD and
DSB, which only DP = 1 selects (R77; assumption 20). -/
def decodeTableWord (nbits w : Nat) : Option Instr :=
  decodeRow false (BitVec.ofNat 16 (w % 2 ^ nbits))

/-! ### The encoder -/

/-- A memory-reference word (R73): I, T, OP, S, D. -/
def mrWord (op : BitVec 4) (m : MemRef) : Word :=
  BitVec.ofBool m.indirect ++ BitVec.ofBool m.indexed ++ op ++ BitVec.ofBool m.sector ++ m.disp

/-- An LDX (`t` true) or STX word (R78). -/
def xrWord (t : Bool) (x : XRef) : Word :=
  BitVec.ofBool x.indirect ++ BitVec.ofBool t ++ (0o15 : BitVec 4) ++ BitVec.ofBool x.sector ++ x.disp

/-- A shift word (R75): the group 010000, L, N, K, NF. -/
def shWord (left aAlone : Bool) (k : BitVec 2) (nf : BitVec 6) : Word :=
  (0b010000 : BitVec 6) ++ BitVec.ofBool left ++ BitVec.ofBool aAlone ++ k ++ nf

/-- An input/output word (R74, R85): bits 1 and 2 choose among the op codes '14, '34, '54, '74. -/
def ioWord (hi2 : BitVec 2) (code : IoCode) : Word :=
  hi2 ++ (0o14 : BitVec 4) ++ code.f ++ code.d

/-- The word of an instruction (R86 to R90). -/
def encode : Instr → Word
  | .jmp m => mrWord 0o01 m
  | .lda m => mrWord 0o02 m
  | .dld m => mrWord 0o02 m
  | .ana m => mrWord 0o03 m
  | .sta m => mrWord 0o04 m
  | .dst m => mrWord 0o04 m
  | .era m => mrWord 0o05 m
  | .add m => mrWord 0o06 m
  | .dad m => mrWord 0o06 m
  | .sub m => mrWord 0o07 m
  | .dsb m => mrWord 0o07 m
  | .jst m => mrWord 0o10 m
  | .cas m => mrWord 0o11 m
  | .irs m => mrWord 0o12 m
  | .ima m => mrWord 0o13 m
  | .stx x => xrWord false x
  | .ldx x => xrWord true x
  | .mpy m => mrWord 0o16 m
  | .div m => mrWord 0o17 m
  | .ocp code => ioWord 0 code
  | .sks code => ioWord 1 code
  | .ina code => ioWord 2 code
  | .ota code => ioWord 3 code
  | .smk .mask => 0o170020
  | .smk .mask2 => 0o170024
  | .otk => 0o171020
  | .lrl nf => shWord false false 0 nf
  | .lrs nf => shWord false false 1 nf
  | .lrr nf => shWord false false 2 nf
  | .lgr nf => shWord false true 0 nf
  | .ars nf => shWord false true 1 nf
  | .arr nf => shWord false true 2 nf
  | .lll nf => shWord true false 0 nf
  | .lls nf => shWord true false 1 nf
  | .llr nf => shWord true false 2 nf
  | .lgl nf => shWord true true 0 nf
  | .als nf => shWord true true 1 nf
  | .alr nf => shWord true true 2 nf
  | .hlt => 0o000000
  | .sgl => 0o000005
  | .dbl => 0o000007
  | .dxa => 0o000011
  | .exa => 0o000013
  | .rmp => 0o000021
  | .sca => 0o000041
  | .ink => 0o000043
  | .nrm => 0o000101
  | .iab => 0o000201
  | .enb => 0o000401
  | .inh => 0o001001
  | .erm => 0o001401
  | .chs => 0o140024
  | .cra => 0o140040
  | .ssp => 0o140100
  | .rcb => 0o140200
  | .csa => 0o140320
  | .cma => 0o140401
  | .tca => 0o140407
  | .ssm => 0o140500
  | .scb => 0o140600
  | .car => 0o141044
  | .cal => 0o141050
  | .icl => 0o141140
  | .aoa => 0o141206
  | .aca => 0o141216
  | .icr => 0o141240
  | .ica => 0o141340
  | .skp => 0o100000
  | .nop => 0o101000
  | .spl => 0o100400
  | .smi => 0o101400
  | .sze => 0o100040
  | .snz => 0o101040
  | .slz => 0o100100
  | .sln => 0o101100
  | .src => 0o100001
  | .ssc => 0o101001
  | .sr1 => 0o100020
  | .sr2 => 0o100010
  | .sr3 => 0o100004
  | .sr4 => 0o100002
  | .ssr => 0o100036
  | .ss1 => 0o101020
  | .ss2 => 0o101010
  | .ss3 => 0o101004
  | .ss4 => 0o101002
  | .sss => 0o101036
  | .spn => 0o100200
  | .sps => 0o101200

end Sys2Proof
end

