-- ==== Sys2Proof/Machine/Defaults.lean ====
section
/-! DEFINITION. The parameters of R5 at their defaults, and the parameters of the machine that `State.reset`
describes. -/

namespace Sys2Proof.Machine

/-- The defaults of R5, with those of R137, R139, R161 and R176 it refers to. `START_ADDRESS` has none and is taken as
'1000, where every worked program of the spec starts (assumption 4). -/
def defaultParameters : Parameters :=
  { memWords := 16384
    hasIndexLdxStx := true
    hasHsa := true
    hasExtendedAddressing := false
    hasMemoryLockout := false
    hasMemoryParity := false
    shiftFieldZero := .refuse
    intVector := 0o63
    startAddress := 0o1000
    mpyMinMin := .draws
    divFn := { rounding := .towardZero, atLimit := .refuse, exceptions := [] }
    nrmFn := { limit := .refuse, count := .places, carry := .draws }
    unansweredDevices := [] }

/-- The parameters of `State.reset`, which no launch has given any: the defaults, but for the three values that are
`refuse` because the machine's result is not known, taken as `undecided` (assumptions 8, 10, 11). -/
def resetParameters : Parameters :=
  { defaultParameters with
    shiftFieldZero := .undecided
    divFn := { defaultParameters.divFn with atLimit := .undecided }
    nrmFn := { defaultParameters.nrmFn with limit := .undecided } }

end Sys2Proof.Machine
end

