-- ==== Sys2Proof/Machine/Memory.lean ====
section
/-! DEFINITION. The memory (R50, R54 to R57) as data: the host's list of byte cells in one canonical form, and the
two operations of the machine on it, reading and writing one whole 16-bit word. The word at address `a` is written
down as two cells, its left half (bits 1 to 8) at `2 * a` and its right half (bits 9 to 16) at `2 * a + 1`; no
operation of the machine can tell (R57; assumption 2). -/

namespace Sys2Proof.Machine

/-- The memory: byte cells, by rising address (assumption 2). -/
abbrev Memory := List Host.Cell

/-- What a byte that no cell lists reads as (R41 leaves it unspecified; assumption 3). -/
def unlistedByte : Byte := 0

/-- The byte at a cell address. -/
def Memory.readByte : Memory → Nat → Byte
  | [], _ => unlistedByte
  | (k, v) :: m, n => if n = k then v else Memory.readByte m n

/-- The list with a cell put in its place by address, instead of one of the same address. -/
def Memory.insertCell : Memory → Nat → Byte → Memory
  | [], n, v => [(n, v)]
  | (k, w) :: m, n, v =>
    if n < k then (n, v) :: (k, w) :: m
    else if n = k then (n, v) :: m
    else (k, w) :: Memory.insertCell m n v

/-- Write one byte: a byte that reads as an unlisted one does is not listed. -/
def Memory.writeByte (m : Memory) (n : Nat) (v : Byte) : Memory :=
  if v = unlistedByte then m.filter fun cell => cell.1 != n else m.insertCell n v

/-- The 16-bit word at word address `a` (R50). -/
def Memory.readWord (m : Memory) (a : Nat) : Word := m.readByte (2 * a) ++ m.readByte (2 * a + 1)

/-- Write the 16-bit word at word address `a` (R50, R56). -/
def Memory.writeWord (m : Memory) (a : Nat) (v : Word) : Memory :=
  (m.writeByte (2 * a) (v.extractLsb' 8 8)).writeByte (2 * a + 1) (v.extractLsb' 0 8)

/-- The canonical form: cell addresses strictly rise, and no cell holds what an unlisted byte reads as. -/
abbrev Memory.wf (m : Memory) : Prop :=
  m.Pairwise (fun c d => c.1 < d.1) ∧ ∀ c ∈ m, c.2 ≠ unlistedByte

/-- Every cell belongs to one of the first `words` words (R54). -/
abbrev Memory.within (m : Memory) (words : Nat) : Prop := ∀ c ∈ m, c.1 < 2 * words

end Sys2Proof.Machine
end

