-- ==== Sys2Proof/Machine/State.lean ====
section
/-! DEFINITION. The state of the machine as plain data (10_state.md), the reasons a step can stop, and the state
after reset (R41, R290). -/

namespace Sys2Proof.Machine

/-- The state of the machine. -/
@[ext]
structure State where
  /-- A, the accumulator (R21). -/
  a : Word
  /-- B, the extension register (R22). -/
  b : Word
  /-- P, the program counter: 16 bits (R20), of which the low `AW` are an address (R26). -/
  p : Word
  /-- C, the carry (overflow) indicator (R28). -/
  c : Bool
  /-- SC, the shift counter (R25). -/
  sc : BitVec 5
  /-- PI, the program interrupt enable indicator (R29). -/
  pi : Bool
  /-- DP, the double precision mode indicator (R30); read it through `State.dpBit`. -/
  dp : Bool
  /-- PMI, the extended-address-operation indicator (R31); read it through `State.pmiBit`. -/
  pmi : Bool
  /-- RM, the restricted mode indicator (R32); read it through `State.rmBit`. -/
  rm : Bool
  /-- MPE, the memory parity error indicator (R33); read it through `State.mpeBit`. -/
  mpe : Bool
  /-- MASK, the interrupt mask (R34). -/
  mask : Word
  /-- MASK2, the second mask group (R34). -/
  mask2 : Word
  /-- ENB_PENDING: the instruction after an ENB is not interrupted (R39). -/
  enbPending : Bool
  /-- RUN, the run/halt state (R37). -/
  run : Bool
  /-- S1 to S4, the sense switches as the launch fixes them (R35, R291); read only where `switchesFixed`. -/
  switches : SenseSwitches
  /-- The launch fixes the sense switches as a premise (R35). The model's own field. -/
  switchesFixed : Bool
  /-- Memory (R38, R50); its word 0 is X, the index register (R23, R24). -/
  mem : Memory
  /-- The event history of the run, oldest first (R240). -/
  events : List IoEvent
  /-- Answers of the environment that the launch fixes as a premise (R240). The model's own field. -/
  script : Script
  /-- How many free values the run has drawn (`draw` of R9). The model's own field (assumption 5). -/
  draws : Nat
  /-- The parameters of R5, arguments of the launch (R291); no step changes them (assumption 1). -/
  config : Parameters
  deriving DecidableEq, Repr

/-- Why the machine stops where the spec gives the step no result and what stops it is no missing meaning. -/
inductive Fault where
  /-- `step`, in a state with RUN = 0: the run has ended (R37, R220). Safe: the model stops where the operator of
  the machine could restart it. -/
  | halted
  /-- A memory access or an instruction fetch at an address with no memory behind it, `refuse(no_memory)` of R54.
  Safe: the spec gives the access no result. -/
  | noMemory (address : Word)
  /-- The effective-address loop of R81 or R82, when the chain of indirect words has no end: the machine hangs.
  Safe: the machine makes no further progress. -/
  | endlessIndirection
  deriving DecidableEq, Repr

/-- Why the model gives a step no meaning: the `refuse(reason)` of R9. Every one of them is safe: nothing can be
proved of what the machine does there. -/
inductive Refusal where
  /-- Raised by `exec` alone, for an instruction without a meaning yet. No arm raises it. -/
  | notModelled (mnemonic : String)
  /-- `step`: the word fetched matches no row of the opcode table (R91). -/
  | unlistedEncoding (w : Word)
  /-- An instruction of an option that is absent, or an OTK that asks for one (R91, R228). -/
  | optionAbsent (option : OptionName)
  /-- A shift word with count field 0, where `SHIFT_FIELD_ZERO_COUNT` is `refuse` (R161). -/
  | shiftCountZero
  /-- `step`, and any store, in restricted mode, of which the spec knows nothing (R56, R233). -/
  | restrictedModeUnmodelled
  /-- DXA, or an OTK that clears PMI, while P is 2^14 or more (R228, R232). -/
  | dxaInUpperMemory
  /-- Interrupt entry on a machine with the extended addressing option (R274). -/
  | interruptEntryExtended
  /-- DIV whose quotient is -32768, where `DIV_FN` is `refuse` there (R139). -/
  | divQuotientUndecided
  /-- NRM of a number of all zeros or all ones, where `NRM_FN` is `refuse` there (R176). -/
  | nrmOperandUndecided
  deriving DecidableEq, Repr

/-- What an operation of the machine answers: a value, a fault or a refusal. -/
abbrev Result (α : Type) := Host.Outcome α Fault Refusal

/-- Right after reset (R41, R290): interrupts off, single precision, 14-bit addresses, running, nothing drawn, no
premise on the environment. The registers R41 leaves unspecified hold 0 (assumption 3), memory lists nothing, and
the parameters are `resetParameters`. -/
def State.reset : State where
  a := 0
  b := 0
  p := resetParameters.startAddress
  c := false
  sc := 0
  pi := false
  dp := false
  pmi := false
  rm := false
  mpe := false
  mask := 0
  mask2 := 0
  enbPending := false
  run := true
  switches := { s1 := false, s2 := false, s3 := false, s4 := false }
  switchesFixed := false
  mem := []
  events := []
  script := Script.free
  draws := 0
  config := resetParameters

end Sys2Proof.Machine
end

