-- ==== Sys2Proof/Machine/Registers.lean ====
section
/-! DEFINITION. Reading and writing one register or indicator (10_state.md): the one place where an indicator of an
absent option reads as 0 and where X is memory word 0. -/

namespace Sys2Proof.Machine

/-! ### Reading the indicators that belong to an option: without the option they are the constant 0 -/

/-- DP (R30): the constant 0 without `HAS_HSA`. -/
def State.dpBit (s : State) : Bool := s.config.hasHsa && s.dp

/-- PMI (R31): the constant 0 without `HAS_EXTENDED_ADDRESSING`. -/
def State.pmiBit (s : State) : Bool := s.config.hasExtendedAddressing && s.pmi

/-- RM (R32): the constant 0 without `HAS_MEMORY_LOCKOUT`. -/
def State.rmBit (s : State) : Bool := s.config.hasMemoryLockout && s.rm

/-- MPE (R33): the constant 0 without `HAS_MEMORY_PARITY`. -/
def State.mpeBit (s : State) : Bool := s.config.hasMemoryParity && s.mpe

/-- X, the index register, which is memory word 0 (R23, R24). -/
def State.x (s : State) : Word := s.mem.readWord 0

/-! ### Writing one field -/

/-- `A <- v`. -/
def State.setA (s : State) (v : Word) : State := { s with a := v }

/-- `B <- v`. -/
def State.setB (s : State) (v : Word) : State := { s with b := v }

/-- `P <- v`. -/
def State.setP (s : State) (v : Word) : State := { s with p := v }

/-- `C <- v`. -/
def State.setC (s : State) (v : Bool) : State := { s with c := v }

/-- `SC <- v`. -/
def State.setSC (s : State) (v : BitVec 5) : State := { s with sc := v }

/-- `PI <- v`. -/
def State.setPI (s : State) (v : Bool) : State := { s with pi := v }

/-- `DP <- v`. -/
def State.setDP (s : State) (v : Bool) : State := { s with dp := v }

/-- `PMI <- v`. -/
def State.setPMI (s : State) (v : Bool) : State := { s with pmi := v }

/-- `RM <- v`. -/
def State.setRM (s : State) (v : Bool) : State := { s with rm := v }

/-- `MPE <- v`. -/
def State.setMPE (s : State) (v : Bool) : State := { s with mpe := v }

/-- `MASK <- v`. -/
def State.setMask (s : State) (v : Word) : State := { s with mask := v }

/-- `MASK2 <- v`. -/
def State.setMask2 (s : State) (v : Word) : State := { s with mask2 := v }

/-- `ENB_PENDING <- v`. -/
def State.setEnbPending (s : State) (v : Bool) : State := { s with enbPending := v }

/-- `RUN <- v`. -/
def State.setRun (s : State) (v : Bool) : State := { s with run := v }

/-- Write memory. -/
def State.setMem (s : State) (v : Memory) : State := { s with mem := v }

/-- Write the event history. -/
def State.setEvents (s : State) (v : List IoEvent) : State := { s with events := v }

/-- Write the environment's fixed answers. -/
def State.setScript (s : State) (v : Script) : State := { s with script := v }

/-- Write the number of draws. -/
def State.setDraws (s : State) (v : Nat) : State := { s with draws := v }

end Sys2Proof.Machine
end

