-- ==== Sys2Proof/Machine/Flags.lean ====
section
/-! DEFINITION. Number formats and every flag computation of the spec: the exact integer is computed first, and C is
read off by comparing it with the range of the result format (R109, R130, R131). -/

namespace Sys2Proof.Machine

/-- `s16(v)` of R9: the two's complement value of a word. -/
def s16 (v : Word) : Int := v.toInt

/-- `u16(n)` of R9: the integer modulo 65536. -/
def u16 (n : Int) : Word := BitVec.ofInt 16 n

/-- `dp(hi, lo)` of R109: the 31-bit number whose bits are the 16 bits of `hi` and bits 2 to 16 of `lo`. -/
def dpNum (hi lo : Word) : BitVec 31 := hi ++ lo.extractLsb' 0 15

/-- `s31(v)` of R9. -/
def s31 (v : BitVec 31) : Int := v.toInt

/-- The integer modulo 2^31, as a 31-bit number (R131). -/
def u31 (n : Int) : BitVec 31 := BitVec.ofInt 31 n

/-- The first word of a 31-bit number: its high 16 bits (R133). -/
def dpHi (u : BitVec 31) : Word := u.extractLsb' 15 16

/-- The second word of a 31-bit number: its low 15 bits, bit 1 zero (R133). -/
def dpLo (u : BitVec 31) : Word := (u.extractLsb' 0 15).setWidth 16

/-- Overflow status of a 16-bit operation with exact result `r` (R131). -/
def overflow16 (r : Int) : Bool := decide (r < -32768 ∨ 32767 < r)

/-- Overflow status of a 31-bit operation with exact result `r` (R131, R133). -/
def overflow31 (r : Int) : Bool := decide (r < -(2 ^ 30) ∨ 2 ^ 30 - 1 < r)

/-- What `DIV_FN` of R139 answers. `atLimit` is the quotient -32768, the one point the rule leaves open. -/
inductive DivOutcome where
  | proper (q r : Int)
  | atLimit (q r : Int)
  | improper
  deriving DecidableEq, Repr

/-- The quotient of each rounding, exact integers (R139, U12). -/
def roundedQuotient (f : DivRounding) (n d : Int) : Int :=
  match f with
  | .towardZero => n.tdiv d
  | .floor => n.fdiv d
  | .euclidean => n.ediv d

/-- The outcome for an exact quotient: proper from -32767 to 32767, open at -32768, improper beyond (R139). -/
def quotientOutcome (q r : Int) : DivOutcome :=
  if -32767 ≤ q ∧ q ≤ 32767 then .proper q r else if q = -32768 then .atLimit q r else .improper

/-- The outcome that the parameter gives for operands it answers apart: with no quotient, improper. -/
def givenOutcome (result : Option (Int × Int)) : DivOutcome :=
  match result with
  | some qr => .proper qr.1 qr.2
  | none => .improper

/-- `DIV_FN` of R139 for the dividend `u` and the divisor `v`: division by zero is improper (R138), an exception of the
parameter is answered as it says, every other quotient is rounded. -/
def divOutcome (f : DivFn) (u : BitVec 31) (v : Word) : DivOutcome :=
  if v = 0 then .improper
  else
    match f.exceptions.find? fun e => e.dividend == u && e.divisor == v with
    | some e => givenOutcome e.result
    | none =>
      quotientOutcome (roundedQuotient f.rounding (s31 u) (s16 v))
        (s31 u - roundedQuotient f.rounding (s31 u) (s16 v) * s16 v)

end Sys2Proof.Machine
end

