-- ==== Sys2Proof/Machine/Operands.lean ====
section
/-! DEFINITION. Operands: addresses (R26, R52, R80 to R83), the word at an address (R54, R55), the places of a shift
(R84, R161). Everything here only looks at the state; what a read may do to it is `afterReads` of Ops.lean. -/

namespace Sys2Proof.Machine

/-- Go on with the value of a result, or stop as it stopped. -/
def andThen {α β : Type} (r : Result α) (k : α → Result β) : Result β :=
  match r with
  | .next v => k v
  | .fault f => .fault f
  | .refused q => .refused q

/-! ### Addresses -/

/-- `AW` of R52: 14, or 15 in extended mode. -/
def State.aw (s : State) : Nat := if s.pmiBit then 15 else 14

/-- A number modulo `2^aw`, as a word: all address arithmetic (R27, R52). -/
def wrapAddr (aw n : Nat) : Word := BitVec.ofNat 16 (n % 2 ^ aw)

/-- Pf, the address the executing instruction was fetched from: P already holds the next one (R10, R26). -/
def State.instrAddr (s : State) : Word := wrapAddr s.aw (s.p.toNat + (2 ^ s.aw - 1))

/-- The first address Y of R80: in sector zero, or in the sector that holds the instruction. -/
def firstAddress (sector : Bool) (d : BitVec 9) (s : State) : Word :=
  if sector then wrapAddr s.aw (s.instrAddr.toNat - s.instrAddr.toNat % 512 + d.toNat) else d.setWidth 16

/-- `Mem[a]` for an installed address (R54, R55). -/
def wordAt (a : Word) (s : State) : Result Word :=
  if a.toNat < s.config.memWords then .next (s.mem.readWord a.toNat) else .fault (.noMemory a)

/-- An effective address, and the addresses of the indirect words read on the way to it, in order. -/
structure Located where
  ea : Word
  path : List Word
  deriving DecidableEq, Repr

/-- Index an address when the index bit asks for it, with `aw`-bit addresses (R81, R82). -/
def indexedBy (aw : Nat) (t : Bool) (y : Word) (s : State) : Word :=
  if t then wrapAddr aw (y.toNat + s.x.toNat) else y

/-- The loop of R81: index, then indirect, at every level. The first argument bounds the number of indirect words
read; a chain that uses up `chainLimit` of them has no end. -/
def normalChain : Nat → Bool → Bool → Word → State → Result Located
  | 0, i, t, y, s =>
    if i then .fault .endlessIndirection else .next { ea := indexedBy 14 t y s, path := [] }
  | fuel + 1, i, t, y, s =>
    if i then
      andThen (wordAt (indexedBy 14 t y s) s) fun m =>
        andThen (normalChain fuel (bit m 1) (bit m 2) (m &&& 0x3FFF) s) fun r =>
          .next { r with path := indexedBy 14 t y s :: r.path }
    else .next { ea := indexedBy 14 t y s, path := [] }

/-- The loop of R82: indirect words of 15 address bits and no index bit. -/
def extendedChain : Nat → Bool → Word → State → Result Located
  | 0, i, y, _ => if i then .fault .endlessIndirection else .next { ea := y, path := [] }
  | fuel + 1, i, y, s =>
    if i then
      andThen (wordAt y s) fun m =>
        andThen (extendedChain fuel (bit m 1) (m &&& 0x7FFF) s) fun r => .next { r with path := y :: r.path }
    else .next { ea := y, path := [] }

/-- How many indirect words a chain with an end can read at most: one for each address, since what follows an
address in the chain depends on that address alone (R81, R82). -/
def chainLimit (aw : Nat) : Nat := 2 ^ aw

/-- The effective address from (Y, I, T) in the addressing mode in force: R81 when PMI = 0, R82 when PMI = 1. -/
def resolve (i t : Bool) (y : Word) (s : State) : Result Located :=
  if s.pmiBit then
    andThen (extendedChain (chainLimit 15) i y s) fun r => .next { r with ea := indexedBy 15 t r.ea s }
  else normalChain (chainLimit 14) i t y s

/-- `EA(w, Pf)` of a memory-reference instruction (R80 to R82). -/
def locateMem (m : MemRef) (s : State) : Result Located :=
  resolve m.indirect m.indexed (firstAddress m.sector m.disp s) s

/-- `EA(w, Pf)` of LDX and STX, whose own index bit asks for nothing (R83). -/
def locateX (x : XRef) (s : State) : Result Located :=
  resolve x.indirect false (firstAddress x.sector x.disp s) s

/-- The address of the second word of a double-word operand (R58). -/
def secondAddress (ea : Word) (s : State) : Word := wrapAddr s.aw (ea.toNat + 1)

/-! ### Words with a field replaced -/

/-- `setfld(m, 17 - aw, 16, v)` of R182: `m` with its low `aw` bits, 14 or 15, taken from `v`. -/
def linkWord (extended : Bool) (m v : Word) : Word :=
  if extended then (m &&& 0x8000) ||| (v &&& 0x7FFF) else (m &&& 0xC000) ||| (v &&& 0x3FFF)

/-! ### The places of a shift -/

/-- The number of places of the count field (R84, R161); `none` where the parameter is `refuse`. -/
def shiftPlaces (nf : BitVec 6) (s : State) : Option Nat :=
  if nf = 0 then
    match s.config.shiftFieldZero with
    | .refuse => none
    | .noPlaces => some 0
    | .sixtyFour => some 64
    | .undecided => some (if Config.zeroFieldShifts64 then 64 else 0)
  else some (64 - nf.toNat)

end Sys2Proof.Machine
end

