-- ==== Sys2Proof/Machine/Ops.lean ====
section
/-! DEFINITION. The named operations over memory, registers and the environment: draws and answers (R9, R240),
reads and writes of memory (R55, R56), the program counter (R27), the link of a subroutine and of an interrupt
(R182, R274), interrupts (R273, R274) and the fetch (R10). -/

namespace Sys2Proof.Machine

/-! ### Draws and the environment's answers -/

/-- One more free value drawn. -/
def State.drew (s : State) : State := s.setDraws (s.draws + 1)

/-- `draw(16 bits)` (R9). -/
def drawWord (s : State) : Word × State := (Config.freeWord s.draws, s.drew)

/-- `draw(1 bit)` (R9). -/
def drawBit (s : State) : Bool × State := (Config.freeBit s.draws, s.drew)

/-- `draw(5 bits)` (R162). -/
def drawShiftCount (s : State) : BitVec 5 × State := (Config.freeShiftCount s.draws, s.drew)

/-- The next answer a script fixes, or else a free one: `rest` puts the script's remainder back. -/
def answer {α : Type} (fixed : List α) (rest : List α → Script) (free : α) (s : State) : α × State :=
  match fixed with
  | v :: later => (v, s.setScript (rest later))
  | [] => (free, s.drew)

/-- Append a call to the event history (R240). -/
def record (e : IoEvent) (s : State) : State := s.setEvents (s.events ++ [e])

/-- The device code is one that nothing answers (R240). -/
def unanswered (d : BitVec 6) (s : State) : Bool := s.config.unansweredDevices.contains d

/-- `IoSks(F, D)` (R240): the sensed condition, false where nothing answers. -/
def askSense (f : BitVec 4) (d : BitVec 6) (s : State) : Bool × State :=
  if unanswered d s then (false, s)
  else answer s.script.sense (fun l => { s.script with sense := l })
    (Config.senseAnswer s.draws s.events f d) s

/-- `IoIna(F, D)` (R240): ready, and the word on the input bus; never ready where nothing answers. R240 gives no data
there; DESIGN CHOICE (log entry 18): the answer then carries a fresh free word, drawn from no script, which only the
event history shows. -/
def askInput (f : BitVec 4) (d : BitVec 6) (s : State) : (Bool × Word) × State :=
  if unanswered d s then ((false, Config.inputData s.draws s.events f d), s.drew)
  else answer s.script.input (fun l => { s.script with input := l })
    (Config.inputReady s.draws s.events f d, Config.inputData s.draws s.events f d) s

/-- `IoOta(F, D, v)` (R240): ready, never where nothing answers. -/
def askOutput (f : BitVec 4) (d : BitVec 6) (v : Word) (s : State) : Bool × State :=
  if unanswered d s then (false, s)
  else answer s.script.output (fun l => { s.script with output := l })
    (Config.outputReady s.draws s.events f d v) s

/-- `IntRequest()` (R272). -/
def askInterrupt (s : State) : Bool × State :=
  answer s.script.interrupt (fun l => { s.script with interrupt := l })
    (Config.interruptRequest s.draws s.events) s

/-- Whether the memory finds bad parity at a read of `a` (R33). -/
def askParity (a : Word) (s : State) : Bool × State :=
  answer s.script.parity (fun l => { s.script with parity := l }) (Config.parityError s.draws a) s

/-- The setting of the sense switches at the moment of a test, read once (R35, R207). -/
def askSwitches (s : State) : SenseSwitches × State :=
  if s.switchesFixed then (s.switches, s)
  else
    ({ s1 := Config.switchOn s.draws 1, s2 := Config.switchOn s.draws 2,
       s3 := Config.switchOn s.draws 3, s4 := Config.switchOn s.draws 4 }, s.drew)

/-! ### Memory -/

/-- What a read of `a` may do to the state: with the parity option the environment may set MPE (R33, R55). -/
def afterRead (a : Word) (s : State) : State :=
  if s.config.hasMemoryParity then (askParity a s).2.setMPE (s.mpe || (askParity a s).1) else s

/-- The state after reads of the addresses of a list, in order (R59). -/
def afterReads (l : List Word) (s : State) : State := l.foldl (fun t a => afterRead a t) s

/-- `MemWrite(a, 1, v)` (R56): no meaning in restricted mode, none where no memory is installed (R54). -/
def memWrite (a v : Word) (s : State) : Result State :=
  if s.rmBit then .refused .restrictedModeUnmodelled
  else if a.toNat < s.config.memWords then .next (s.setMem (s.mem.writeWord a.toNat v))
  else .fault (.noMemory a)

/-- Go on with an effective address, after the reads of its indirect chain. -/
def withAddress (place : Result Located) (s : State) (k : Word → State → Result State) : Result State :=
  andThen place fun r => k r.ea (afterReads r.path s)

/-- Read the word at an effective address and go on with both (R59: the chain, then EA). -/
def withOperand (place : Result Located) (s : State) (k : Word → Word → State → Result State) : Result State :=
  andThen place fun r => andThen (wordAt r.ea s) fun v => k r.ea v (afterReads (r.path ++ [r.ea]) s)

/-- Read the two words of a double-word operand and go on with them (R58, R59). -/
def withDouble (place : Result Located) (s : State) (k : Word → Word → State → Result State) : Result State :=
  andThen place fun r =>
    andThen (wordAt r.ea s) fun hi =>
      andThen (wordAt (secondAddress r.ea s) s) fun lo =>
        k hi lo (afterReads (r.path ++ [r.ea, secondAddress r.ea s]) s)

/-! ### The program counter -/

/-- `skip(k)` (R27). -/
def skip (k : Nat) (s : State) : State := s.setP (wrapAddr s.aw (s.p.toNat + k))

/-- Skip the next instruction if the condition holds (R198). -/
def skipIf (cond : Bool) (s : State) : State := if cond then skip 1 s else s

/-- A skip on the sense switches (R198, R207). -/
def skipOnSwitches (cond : SenseSwitches → Bool) (s : State) : State :=
  skipIf (cond (askSwitches s).1) (askSwitches s).2

/-- An instruction of an option: refused where the option is absent (R91). -/
def needs (present : Bool) (option : OptionName) (k : Result State) : Result State :=
  if present then k else .refused (.optionAbsent option)

/-! ### Jump and store; interrupts -/

/-- Store P in the address bits of the word at the effective address and go to the word after it: JST (R182), and
the entry of an interrupt (R274). -/
def jumpAndStore (place : Result Located) (s : State) : Result State :=
  withOperand place s fun ea m t =>
    andThen (memWrite ea (linkWord t.pmiBit m t.p) t) fun u => .next (u.setP (wrapAddr u.aw (ea.toNat + 1)))

/-- `interrupt_due()` of R273. The environment is asked only where its answer counts. -/
def interruptDue (s : State) : Bool × State :=
  if s.run && s.pi && !s.enbPending then askInterrupt s else (false, s)

/-- Interrupt entry (R274): PI is cleared, then P is saved as by an indirect JST through `INT_VECTOR`. P is the
address of the instruction not yet fetched. Nothing else is saved. -/
def interruptEntry (s : State) : Result State :=
  jumpAndStore (resolve true false s.config.intVector s) (s.setPI false)

/-- The entry as the machine takes it: refused with the extended addressing option (R274). -/
def takeInterrupt (s : State) : Result State :=
  if s.config.hasExtendedAddressing then .refused .interruptEntryExtended else interruptEntry s

/-- The return from an interrupt: there is no instruction for it, the routine executes `ENB` and then an indirect
jump through its link word (R275). This is that jump's effect, the one JMP has (R181): P is the effective address. -/
def jumpTo (place : Result Located) (s : State) : Result State :=
  withAddress place s fun ea t => .next (t.setP ea)

/-! ### The fetch -/

/-- The state in which a fetched instruction executes (R10): the fetch is a memory read, P addresses the next
instruction, and ENB_PENDING is clear. R273 clears it at the end of the step unless the instruction is ENB; no
instruction reads it and ENB sets it, so clearing it before the instruction leaves the same state (assumption 12). -/
def afterFetch (s : State) : State :=
  ((afterRead s.p s).setP (wrapAddr s.aw (s.p.toNat + 1))).setEnbPending false

/-- The word at P (R10, R54). -/
def fetch (s : State) : Result Word := wordAt s.p s

/-- Store a word where the next fetch reads it. -/
def placeAtP (s : State) (w : Word) : State := s.setMem (s.mem.writeWord s.p.toNat w)

end Sys2Proof.Machine
end

