-- ==== Sys2Proof/Machine/Arithmetic.lean ====
section
/-! DEFINITION. Arithmetic instructions (42_arithmetic.md): exact results on integers, then reduced to the format,
with C the overflow status (R131). -/

namespace Sys2Proof.Machine

/-- A single-word result and its overflow status (R131). -/
def putSum (r : Int) (s : State) : State := (s.setA (u16 r)).setC (overflow16 r)

/-- A double-word number into A and B, bit 1 of B zero (R109, R133). -/
def putDouble (r : Int) (s : State) : State := (s.setA (dpHi (u31 r))).setB (dpLo (u31 r))

/-- ADD (R132). -/
def execAdd (m : MemRef) (s : State) : Result State :=
  withOperand (locateMem m s) s fun _ v t => .next (putSum (s16 t.a + s16 v) t)

/-- The exact sum or difference of DAD and DSB into A, B and C (R133, R135). -/
def putDoubleSum (r : Int) (s : State) : State := (putDouble r s).setC (overflow31 r)

/-- DAD (R133). -/
def execDad (m : MemRef) (s : State) : Result State :=
  needs s.config.hasHsa .highSpeedArithmetic
    (withDouble (locateMem m s) s fun hi lo t =>
      .next (putDoubleSum (s31 (dpNum t.a t.b) + s31 (dpNum hi lo)) t))

/-- SUB (R134). -/
def execSub (m : MemRef) (s : State) : Result State :=
  withOperand (locateMem m s) s fun _ v t => .next (putSum (s16 t.a - s16 v) t)

/-- DSB (R135). -/
def execDsb (m : MemRef) (s : State) : Result State :=
  needs s.config.hasHsa .highSpeedArithmetic
    (withDouble (locateMem m s) s fun hi lo t =>
      .next (putDoubleSum (s31 (dpNum t.a t.b) - s31 (dpNum hi lo)) t))

/-- A and B free, as after an improper divide (R138). -/
def drawDouble (s : State) : State :=
  let a := drawWord s
  let b := drawWord a.2
  (b.2.setA a.1).setB b.1

/-- A, B and C free: the product of '100000 by '100000 (R137). -/
def drawProduct (s : State) : State :=
  let t := drawDouble s
  let c := drawBit t
  c.2.setC c.1

/-- The product of the two least numbers as `MPY_MIN_MIN` says (R137). -/
def leastProduct (s : State) : State :=
  match s.config.mpyMinMin with
  | .draws => drawProduct s
  | .values a b c => ((s.setA a).setB b).setC (c.getD s.c)

/-- MPY's result (R136, R137). -/
def multiplied (v : Word) (s : State) : State :=
  if s.a = 0x8000 ∧ v = 0x8000 then leastProduct s else putDouble (s16 s.a * s16 v) s

/-- MPY (R136): C is left as it was, but for the one product that does not fit (R137). -/
def execMpy (m : MemRef) (s : State) : Result State :=
  needs s.config.hasHsa .highSpeedArithmetic
    (withOperand (locateMem m s) s fun _ v t => .next (multiplied v t))

/-- A proper divide (R138): quotient, remainder, C clear. -/
def putQuotient (q r : Int) (s : State) : State := ((s.setA (u16 q)).setB (u16 r)).setC false

/-- An improper divide (R138): C set, A and B free. -/
def improperDivide (s : State) : State := (drawDouble s).setC true

/-- DIV's result (R138, R139). -/
def divided (v : Word) (s : State) : Result State :=
  match divOutcome s.config.divFn (dpNum s.a s.b) v with
  | .proper q r => .next (putQuotient q r s)
  | .improper => .next (improperDivide s)
  | .atLimit q r =>
    match s.config.divFn.atLimit with
    | .refuse => .refused .divQuotientUndecided
    | .proper => .next (putQuotient q r s)
    | .improper => .next (improperDivide s)
    | .undecided =>
      .next (if Config.divMinImproper (dpNum s.a s.b) v then improperDivide s else putQuotient q r s)

/-- DIV (R138). -/
def execDiv (m : MemRef) (s : State) : Result State :=
  needs s.config.hasHsa .highSpeedArithmetic (withOperand (locateMem m s) s fun _ v t => divided v t)

/-- ACA (R140): add C to A. -/
def execAca (s : State) : Result State := .next (putSum (s16 s.a + (if s.c then 1 else 0)) s)

/-- AOA (R141): add one to A. -/
def execAoa (s : State) : Result State := .next (putSum (s16 s.a + 1) s)

/-- TCA (R142): two's complement of A, C unchanged. -/
def execTca (s : State) : Result State := .next (s.setA (u16 (-s16 s.a)))

end Sys2Proof.Machine
end

