-- ==== Sys2Proof/Machine/HalfWord.lean ====
section
/-! DEFINITION. Half-word instructions (41_half_word.md): the left half of A is bits 1 to 8, the right half bits 9
to 16 (R51). -/

namespace Sys2Proof.Machine

/-- CAL (R120): clear the left half of A. -/
def execCal (s : State) : Result State := .next (s.setA (s.a &&& 0x00FF))

/-- CAR (R121): clear the right half of A. -/
def execCar (s : State) : Result State := .next (s.setA (s.a &&& 0xFF00))

/-- ICA (R122): interchange the halves of A. -/
def execIca (s : State) : Result State := .next (s.setA (((s.a &&& 0x00FF) <<< 8) ||| (s.a >>> 8)))

/-- ICL (R123): the left half to the right half, the left half cleared. -/
def execIcl (s : State) : Result State := .next (s.setA (s.a >>> 8))

/-- ICR (R124): the right half to the left half, the right half cleared. -/
def execIcr (s : State) : Result State := .next (s.setA ((s.a &&& 0x00FF) <<< 8))

end Sys2Proof.Machine
end

