-- ==== Sys2Proof/Machine/InputOutput.lean ====
section
/-! DEFINITION. Input/output instructions (46_input_output.md): a question to the environment, its answer and the
effect of that on A, P and the masks. Every call is recorded (R240). -/

namespace Sys2Proof.Machine

/-- OCP (R241): output control pulse. -/
def execOcp (code : IoCode) (s : State) : Result State := .next (record (.ocp code.f code.d) s)

/-- SKS (R242): skip if the sensed condition holds. -/
def execSks (code : IoCode) (s : State) : Result State :=
  let q := askSense code.f code.d s
  .next (skipIf q.1 (record (.sks code.f code.d q.1) q.2))

/-- What INA puts into A (R243): with (F7) = 1 the data, with (F7) = 0 the data OR-ed into A. -/
def inputWord (f : BitVec 4) (a data : Word) : Word := if f.getLsbD 3 then data else a ||| data

/-- INA (R243): if the device is ready, input to A and skip. -/
def execIna (code : IoCode) (s : State) : Result State :=
  let q := askInput code.f code.d s
  let t := record (.ina code.f code.d q.1.1 q.1.2) q.2
  .next (if q.1.1 then skip 1 (t.setA (inputWord code.f t.a q.1.2)) else t)

/-- OTA (R244): if the device is ready, output A and skip. -/
def execOta (code : IoCode) (s : State) : Result State :=
  let q := askOutput code.f code.d s.a s
  .next (skipIf q.1 (record (.ota code.f code.d s.a q.1) q.2))

/-- SMK (R247): set an interrupt mask from A; it does not skip. -/
def execSmk (group : MaskGroup) (s : State) : Result State :=
  match group with
  | .mask => .next (record (.smk maskDevice s.a) (s.setMask s.a))
  | .mask2 => .next (record (.smk mask2Device s.a) (s.setMask2 s.a))

end Sys2Proof.Machine
end

