-- ==== Sys2Proof/Machine/LoadStore.lean ====
section
/-! DEFINITION. Load and store instructions (40_load_store.md). P already addresses the next instruction (R10). -/

namespace Sys2Proof.Machine

/-- CRA (R100): clear A. -/
def execCra (s : State) : Result State := .next (s.setA 0)

/-- LDA (R101): load A. -/
def execLda (m : MemRef) (s : State) : Result State :=
  withOperand (locateMem m s) s fun _ v t => .next (t.setA v)

/-- DLD (R102): load A and B from two consecutive words. -/
def execDld (m : MemRef) (s : State) : Result State :=
  needs s.config.hasHsa .highSpeedArithmetic
    (withDouble (locateMem m s) s fun hi lo t => .next ((t.setA hi).setB lo))

/-- STA (R103): store A. -/
def execSta (m : MemRef) (s : State) : Result State :=
  withAddress (locateMem m s) s fun ea t => memWrite ea t.a t

/-- DST (R104): store A and B in two consecutive words. -/
def execDst (m : MemRef) (s : State) : Result State :=
  needs s.config.hasHsa .highSpeedArithmetic
    (withAddress (locateMem m s) s fun ea t =>
      andThen (memWrite ea t.a t) fun u => memWrite (secondAddress ea s) u.b u)

/-- LDX (R105): load X, which is a write of memory word 0 (R24). -/
def execLdx (x : XRef) (s : State) : Result State :=
  needs s.config.hasIndexLdxStx .indexLdxStx
    (withOperand (locateX x s) s fun _ v t => memWrite 0 v t)

/-- STX (R106): store X. -/
def execStx (x : XRef) (s : State) : Result State :=
  needs s.config.hasIndexLdxStx .indexLdxStx
    (withAddress (locateX x s) s fun ea t => memWrite ea t.x t)

/-- IAB (R107): interchange A and B. -/
def execIab (s : State) : Result State := .next ((s.setA s.b).setB s.a)

/-- SCA (R108): the shift count to A, bits 1 to 11 zero. -/
def execSca (s : State) : Result State :=
  needs s.config.hasHsa .highSpeedArithmetic (.next (s.setA (s.sc.setWidth 16)))

/-- IMA (R110): interchange memory and A. -/
def execIma (m : MemRef) (s : State) : Result State :=
  withOperand (locateMem m s) s fun ea v t => andThen (memWrite ea t.a t) fun u => .next (u.setA v)

end Sys2Proof.Machine
end

