-- ==== Sys2Proof/Machine/Logical.lean ====
section
/-! DEFINITION. Logical and sign instructions (43_logical.md). -/

namespace Sys2Proof.Machine

/-- ANA (R150): and to A. -/
def execAna (m : MemRef) (s : State) : Result State :=
  withOperand (locateMem m s) s fun _ v t => .next (t.setA (t.a &&& v))

/-- ERA (R151): exclusive or to A. -/
def execEra (m : MemRef) (s : State) : Result State :=
  withOperand (locateMem m s) s fun _ v t => .next (t.setA (t.a ^^^ v))

/-- CMA (R152): one's complement of A. -/
def execCma (s : State) : Result State := .next (s.setA (~~~s.a))

/-- CSA (R153): copy the sign to C and set the sign plus. -/
def execCsa (s : State) : Result State := .next ((s.setC (bit s.a 1)).setA (s.a &&& 0x7FFF))

/-- SSM (R154): set the sign minus. -/
def execSsm (s : State) : Result State := .next (s.setA (s.a ||| 0x8000))

/-- SSP (R155): set the sign plus. -/
def execSsp (s : State) : Result State := .next (s.setA (s.a &&& 0x7FFF))

/-- CHS (R156): complement the sign. -/
def execChs (s : State) : Result State := .next (s.setA (s.a ^^^ 0x8000))

end Sys2Proof.Machine
end

