-- ==== Sys2Proof/Machine/Modes.lean ====
section
/-! DEFINITION. Halt, no-operation, the C bit, interrupt enable, keys and modes (45_control.md sections 3 to 5). -/

namespace Sys2Proof.Machine

/-- HLT (R220): stop; everything but RUN stays, P at the next instruction. -/
def execHlt (s : State) : Result State := .next (s.setRun false)

/-- NOP (R221): nothing. -/
def execNop (s : State) : Result State := .next s

/-- RCB (R223): reset C. -/
def execRcb (s : State) : Result State := .next (s.setC false)

/-- SCB (R224): set C. -/
def execScb (s : State) : Result State := .next (s.setC true)

/-- ENB (R225): enable interrupts, from the instruction after the next one on. -/
def execEnb (s : State) : Result State := .next ((s.setPI true).setEnbPending true)

/-- INH (R226): inhibit interrupts at once. -/
def execInh (s : State) : Result State := .next ((s.setPI false).setEnbPending false)

/-- The keys word (R36, R227): C, DP, PMI in bits 1 to 3, zeros in bits 4 to 11, SC in bits 12 to 16. -/
def keysWord (s : State) : Word :=
  BitVec.ofBool s.c ++ BitVec.ofBool s.dpBit ++ BitVec.ofBool s.pmiBit ++ (0 : BitVec 8) ++ s.sc

/-- INK (R227): the keys to A. -/
def execInk (s : State) : Result State := .next (s.setA (keysWord s))

/-- The highest word address of 14-bit addressing lies below this one (R52, R232). -/
def upperMemory : Nat := 2 ^ 14

/-- OTK (R228): A to the keys. Bits for absent options must be 0; PMI may not be cleared above 14-bit addresses. -/
def execOtk (s : State) : Result State :=
  needs (s.config.hasHsa || !bit s.a 2) .highSpeedArithmetic
    (needs (s.config.hasExtendedAddressing || !bit s.a 3) .extendedAddressing
      (if s.pmiBit && !bit s.a 3 && decide (upperMemory ≤ s.p.toNat) then .refused .dxaInUpperMemory
       else .next ((((s.setC (bit s.a 1)).setDP (bit s.a 2)).setPMI (bit s.a 3)).setSC (s.a.extractLsb' 0 5))))

/-- SGL (R229): enter single precision mode. -/
def execSgl (s : State) : Result State :=
  needs s.config.hasHsa .highSpeedArithmetic (.next (s.setDP false))

/-- DBL (R230): enter double precision mode. -/
def execDbl (s : State) : Result State :=
  needs s.config.hasHsa .highSpeedArithmetic (.next (s.setDP true))

/-- EXA (R231): enable extended addressing. -/
def execExa (s : State) : Result State :=
  needs s.config.hasExtendedAddressing .extendedAddressing (.next (s.setPMI true))

/-- DXA (R232): disable extended addressing; no meaning in upper memory. -/
def execDxa (s : State) : Result State :=
  needs s.config.hasExtendedAddressing .extendedAddressing
    (if upperMemory ≤ s.p.toNat then .refused .dxaInUpperMemory else .next (s.setPMI false))

/-- ERM (R233): enter restricted mode, after which no step has a meaning. -/
def execErm (s : State) : Result State :=
  needs s.config.hasMemoryLockout .memoryLockout (.next (s.setRM true))

/-- RMP (R234): reset the memory parity error. -/
def execRmp (s : State) : Result State :=
  needs s.config.hasMemoryParity .memoryParity (.next (s.setMPE false))

end Sys2Proof.Machine
end

