-- ==== Sys2Proof/Machine/Shift.lean ====
section
/-! DEFINITION. Shift instructions and normalise (44_shift.md): the one-place step of each instruction, repeated
(R160). The long register of the logical and rotating shifts is all 32 bits of A and B; that of the arithmetic ones
and of NRM leaves bit 1 of B out and as it was (R169). -/

namespace Sys2Proof.Machine

/-- What a shift works on: A, B and C. -/
structure ShiftRegs where
  a : Word
  b : Word
  c : Bool
  deriving DecidableEq, Repr

/-- A step, `n` times over (R160). -/
def repeatStep (f : ShiftRegs → ShiftRegs) : Nat → ShiftRegs → ShiftRegs
  | 0, r => r
  | n + 1, r => repeatStep f n (f r)

/-- A word whose one bit, the card's bit `i`, is `b`. -/
def oneBit (i : Nat) (b : Bool) : Word := (if b then 1 else 0) <<< (16 - i)

/-- Execute a shift (R160 to R162): C starts at 0, SC ends free; refused where the count field is 0 and the
parameter says so (R161). -/
def execShift (f : ShiftRegs → ShiftRegs) (nf : BitVec 6) (s : State) : Result State :=
  match shiftPlaces nf s with
  | none => .refused .shiftCountZero
  | some n =>
    let r := repeatStep f n { a := s.a, b := s.b, c := false }
    let k := drawShiftCount s
    .next ((((k.2.setA r.a).setB r.b).setC r.c).setSC k.1)

/-! ### One place of each shift -/

/-- ALS (R163): C records a change of sign. -/
def stepAls (r : ShiftRegs) : ShiftRegs :=
  { r with a := r.a <<< 1, c := r.c || (bit (r.a <<< 1) 1 != bit r.a 1) }

/-- ARS (R164). -/
def stepArs (r : ShiftRegs) : ShiftRegs :=
  { r with a := (r.a >>> 1) ||| (r.a &&& 0x8000), c := bit r.a 16 }

/-- ALR (R165). -/
def stepAlr (r : ShiftRegs) : ShiftRegs :=
  { r with a := (r.a <<< 1) ||| oneBit 16 (bit r.a 1), c := bit r.a 1 }

/-- ARR (R166). -/
def stepArr (r : ShiftRegs) : ShiftRegs :=
  { r with a := (r.a >>> 1) ||| oneBit 1 (bit r.a 16), c := bit r.a 16 }

/-- LGL (R167). -/
def stepLgl (r : ShiftRegs) : ShiftRegs := { r with a := r.a <<< 1, c := bit r.a 1 }

/-- LGR (R168). -/
def stepLgr (r : ShiftRegs) : ShiftRegs := { r with a := r.a >>> 1, c := bit r.a 16 }

/-- The registers of LLS and NRM one place to the left (R170, R176): B2 enters A16, B1 is kept. -/
def leftOne (r : ShiftRegs) : ShiftRegs :=
  { r with a := (r.a <<< 1) ||| oneBit 16 (bit r.b 2), b := (r.b &&& 0x8000) ||| ((r.b <<< 1) &&& 0x7FFE) }

/-- LLS (R170): C records a change of sign. -/
def stepLls (r : ShiftRegs) : ShiftRegs :=
  { leftOne r with c := r.c || (bit (leftOne r).a 1 != bit r.a 1) }

/-- LRS (R171): A16 enters B2, B1 is kept. -/
def stepLrs (r : ShiftRegs) : ShiftRegs :=
  { a := (r.a >>> 1) ||| (r.a &&& 0x8000)
    b := (r.b &&& 0x8000) ||| oneBit 2 (bit r.a 16) ||| ((r.b &&& 0x7FFF) >>> 1)
    c := bit r.b 16 }

/-- LLR (R172). -/
def stepLlr (r : ShiftRegs) : ShiftRegs :=
  { a := (r.a <<< 1) ||| oneBit 16 (bit r.b 1), b := (r.b <<< 1) ||| oneBit 16 (bit r.a 1), c := bit r.a 1 }

/-- LRR (R173). -/
def stepLrr (r : ShiftRegs) : ShiftRegs :=
  { a := (r.a >>> 1) ||| oneBit 1 (bit r.b 16), b := (r.b >>> 1) ||| oneBit 1 (bit r.a 16), c := bit r.b 16 }

/-- LLL (R174). -/
def stepLll (r : ShiftRegs) : ShiftRegs :=
  { a := (r.a <<< 1) ||| oneBit 16 (bit r.b 1), b := r.b <<< 1, c := bit r.a 1 }

/-- LRL (R175). -/
def stepLrl (r : ShiftRegs) : ShiftRegs :=
  { a := r.a >>> 1, b := (r.b >>> 1) ||| oneBit 1 (bit r.a 16), c := bit r.b 16 }

/-! ### The twelve shifts -/

/-- ALS (R163): arithmetic left shift of A. -/
def execAls (nf : BitVec 6) (s : State) : Result State := execShift stepAls nf s

/-- ARS (R164): arithmetic right shift of A. -/
def execArs (nf : BitVec 6) (s : State) : Result State := execShift stepArs nf s

/-- ALR (R165): rotate A left. -/
def execAlr (nf : BitVec 6) (s : State) : Result State := execShift stepAlr nf s

/-- ARR (R166): rotate A right. -/
def execArr (nf : BitVec 6) (s : State) : Result State := execShift stepArr nf s

/-- LGL (R167): logical left shift of A. -/
def execLgl (nf : BitVec 6) (s : State) : Result State := execShift stepLgl nf s

/-- LGR (R168): logical right shift of A. -/
def execLgr (nf : BitVec 6) (s : State) : Result State := execShift stepLgr nf s

/-- LLS (R170): long arithmetic left shift. -/
def execLls (nf : BitVec 6) (s : State) : Result State := execShift stepLls nf s

/-- LRS (R171): long arithmetic right shift. -/
def execLrs (nf : BitVec 6) (s : State) : Result State := execShift stepLrs nf s

/-- LLR (R172): long rotate left. -/
def execLlr (nf : BitVec 6) (s : State) : Result State := execShift stepLlr nf s

/-- LRR (R173): long rotate right. -/
def execLrr (nf : BitVec 6) (s : State) : Result State := execShift stepLrr nf s

/-- LLL (R174): long logical left shift. -/
def execLll (nf : BitVec 6) (s : State) : Result State := execShift stepLll nf s

/-- LRL (R175): long logical right shift. -/
def execLrl (nf : BitVec 6) (s : State) : Result State := execShift stepLrl nf s

/-! ### Normalise -/

/-- The loop of R176 with `NRM_LIMIT = limit`: the shifted registers and the number of places. -/
def normalise : Nat → ShiftRegs → ShiftRegs × Nat
  | 0, r => (r, 0)
  | limit + 1, r =>
    if bit r.a 1 = bit r.a 2 then
      let q := normalise limit (leftOne r)
      (q.1, q.2 + 1)
    else (r, 0)

/-- The number has all its 31 bits equal, so that R176 leaves its normalising to `NRM_FN`. -/
def unnormalisable (a b : Word) : Bool := dpNum a b == 0 || dpNum a b == BitVec.allOnes 31

/-- A limit that no other number reaches: 31 bits with two different neighbours differ within 29 places. -/
def ampleLimit : Nat := 30

/-- What NRM leaves in SC for `k` places (R176): the count modulo 32, or its complement. -/
def nrmShiftCount (f : NrmCount) (k : Nat) : BitVec 5 :=
  match f with
  | .places => BitVec.ofNat 5 k
  | .onesComplement => ~~~BitVec.ofNat 5 k
  | .twosComplement => -BitVec.ofNat 5 k

/-- What NRM leaves in C (R176). -/
def nrmCarry (f : NrmCarry) (s : State) : Bool × State :=
  match f with
  | .draws => drawBit s
  | .fixed c => (c, s)
  | .kept => (s.c, s)

/-- NRM's result for a given limit (R176). -/
def normalised (limit : Nat) (s : State) : State :=
  let q := normalise limit { a := s.a, b := s.b, c := s.c }
  let k := nrmCarry s.config.nrmFn.carry s
  (((k.2.setA q.1.a).setB q.1.b).setSC (nrmShiftCount s.config.nrmFn.count q.2)).setC k.1

/-- NRM (R176). -/
def execNrm (s : State) : Result State :=
  needs s.config.hasHsa .highSpeedArithmetic
    (match s.config.nrmFn.limit with
     | .limit n => .next (normalised n s)
     | .refuse =>
       if unnormalisable s.a s.b then .refused .nrmOperandUndecided
       else .next (normalised ampleLimit s)
     | .undecided =>
       .next (if unnormalisable s.a s.b then normalised Config.nrmLimit s
              else normalised ampleLimit s))

end Sys2Proof.Machine
end

