-- ==== Sys2Proof/Machine/Skips.lean ====
section
/-! DEFINITION. Skips (45_control.md section 2): each skips the next instruction if its condition holds and does
nothing else (R198). The switch tests read the four switches once (R207). -/

namespace Sys2Proof.Machine

/-- SKP (R185): skip. -/
def execSkp (s : State) : Result State := .next (skipIf true s)

/-- SPL (R186): skip if A is plus. -/
def execSpl (s : State) : Result State := .next (skipIf (!bit s.a 1) s)

/-- SMI (R187): skip if A is minus. -/
def execSmi (s : State) : Result State := .next (skipIf (bit s.a 1) s)

/-- SZE (R188): skip if A is zero. -/
def execSze (s : State) : Result State := .next (skipIf (s.a == 0) s)

/-- SNZ (R189): skip if A is not zero. -/
def execSnz (s : State) : Result State := .next (skipIf (s.a != 0) s)

/-- SLZ (R190): skip if the least significant bit of A is zero. -/
def execSlz (s : State) : Result State := .next (skipIf (!bit s.a 16) s)

/-- SLN (R191): skip if the least significant bit of A is one. -/
def execSln (s : State) : Result State := .next (skipIf (bit s.a 16) s)

/-- SRC (R192): skip if C is reset. -/
def execSrc (s : State) : Result State := .next (skipIf (!s.c) s)

/-- SSC (R193): skip if C is set. -/
def execSsc (s : State) : Result State := .next (skipIf s.c s)

/-- SR1 (R194): skip if sense switch 1 is off. -/
def execSr1 (s : State) : Result State := .next (skipOnSwitches (fun w => !w.s1) s)

/-- SR2 (R199): skip if sense switch 2 is off. -/
def execSr2 (s : State) : Result State := .next (skipOnSwitches (fun w => !w.s2) s)

/-- SR3 (R195): skip if sense switch 3 is off. -/
def execSr3 (s : State) : Result State := .next (skipOnSwitches (fun w => !w.s3) s)

/-- SR4 (R196): skip if sense switch 4 is off. -/
def execSr4 (s : State) : Result State := .next (skipOnSwitches (fun w => !w.s4) s)

/-- SSR (R197): skip if all sense switches are off. -/
def execSsr (s : State) : Result State := .next (skipOnSwitches (fun w => !w.s1 && !w.s2 && !w.s3 && !w.s4) s)

/-- SS1 (R200): skip if sense switch 1 is on. -/
def execSs1 (s : State) : Result State := .next (skipOnSwitches (fun w => w.s1) s)

/-- SS2 (R201): skip if sense switch 2 is on. -/
def execSs2 (s : State) : Result State := .next (skipOnSwitches (fun w => w.s2) s)

/-- SS3 (R202): skip if sense switch 3 is on. -/
def execSs3 (s : State) : Result State := .next (skipOnSwitches (fun w => w.s3) s)

/-- SS4 (R203): skip if sense switch 4 is on. -/
def execSs4 (s : State) : Result State := .next (skipOnSwitches (fun w => w.s4) s)

/-- SSS (R204): skip if any sense switch is on. -/
def execSss (s : State) : Result State := .next (skipOnSwitches (fun w => w.s1 || w.s2 || w.s3 || w.s4) s)

/-- SPN (R205): skip on no memory parity error; MPE stays. -/
def execSpn (s : State) : Result State :=
  needs s.config.hasMemoryParity .memoryParity (.next (skipIf (!s.mpeBit) s))

/-- SPS (R206): skip on memory parity error; MPE stays. -/
def execSps (s : State) : Result State :=
  needs s.config.hasMemoryParity .memoryParity (.next (skipIf s.mpeBit s))

end Sys2Proof.Machine
end

