-- ==== Sys2Proof/Machine/Transfer.lean ====
section
/-! DEFINITION. Transfers of control (45_control.md section 1): CAS, JMP, JST, IRS. -/

namespace Sys2Proof.Machine

/-- CAS (R180): compare A with memory as signed numbers; greater goes on, equal skips one, less skips two. -/
def execCas (m : MemRef) (s : State) : Result State :=
  withOperand (locateMem m s) s fun _ v t =>
    .next (if s16 v < s16 t.a then t else if s16 t.a = s16 v then skip 1 t else skip 2 t)

/-- JMP (R181): jump. -/
def execJmp (m : MemRef) (s : State) : Result State := jumpTo (locateMem m s) s

/-- JST (R182): jump and store, the subroutine call. -/
def execJst (m : MemRef) (s : State) : Result State := jumpAndStore (locateMem m s) s

/-- IRS (R184): increment, replace and skip if the result is 0. -/
def execIrs (m : MemRef) (s : State) : Result State :=
  withOperand (locateMem m s) s fun ea v t =>
    andThen (memWrite ea (v + 1) t) fun u => .next (skipIf (v + 1 == 0) u)

end Sys2Proof.Machine
end

