-- ==== Sys2Proof/Machine/Dispatch.lean ====
section
/-! DEFINITION. The meaning of every instruction: one arm per constructor of Instr, in the table's order. -/

namespace Sys2Proof.Machine

def exec (i : Instr) (s : State) : Host.Outcome State Fault Refusal :=
  match i with
  | .jmp m => Sys2Proof.Machine.execJmp m s
  | .lda m => Sys2Proof.Machine.execLda m s
  | .dld m => Sys2Proof.Machine.execDld m s
  | .ana m => Sys2Proof.Machine.execAna m s
  | .sta m => Sys2Proof.Machine.execSta m s
  | .dst m => Sys2Proof.Machine.execDst m s
  | .era m => Sys2Proof.Machine.execEra m s
  | .add m => Sys2Proof.Machine.execAdd m s
  | .dad m => Sys2Proof.Machine.execDad m s
  | .sub m => Sys2Proof.Machine.execSub m s
  | .dsb m => Sys2Proof.Machine.execDsb m s
  | .jst m => Sys2Proof.Machine.execJst m s
  | .cas m => Sys2Proof.Machine.execCas m s
  | .irs m => Sys2Proof.Machine.execIrs m s
  | .ima m => Sys2Proof.Machine.execIma m s
  | .stx x => Sys2Proof.Machine.execStx x s
  | .ldx x => Sys2Proof.Machine.execLdx x s
  | .mpy m => Sys2Proof.Machine.execMpy m s
  | .div m => Sys2Proof.Machine.execDiv m s
  | .ocp code => Sys2Proof.Machine.execOcp code s
  | .sks code => Sys2Proof.Machine.execSks code s
  | .ina code => Sys2Proof.Machine.execIna code s
  | .ota code => Sys2Proof.Machine.execOta code s
  | .smk group => Sys2Proof.Machine.execSmk group s
  | .otk => Sys2Proof.Machine.execOtk s
  | .lrl nf => Sys2Proof.Machine.execLrl nf s
  | .lrs nf => Sys2Proof.Machine.execLrs nf s
  | .lrr nf => Sys2Proof.Machine.execLrr nf s
  | .lgr nf => Sys2Proof.Machine.execLgr nf s
  | .ars nf => Sys2Proof.Machine.execArs nf s
  | .arr nf => Sys2Proof.Machine.execArr nf s
  | .lll nf => Sys2Proof.Machine.execLll nf s
  | .lls nf => Sys2Proof.Machine.execLls nf s
  | .llr nf => Sys2Proof.Machine.execLlr nf s
  | .lgl nf => Sys2Proof.Machine.execLgl nf s
  | .als nf => Sys2Proof.Machine.execAls nf s
  | .alr nf => Sys2Proof.Machine.execAlr nf s
  | .hlt => Sys2Proof.Machine.execHlt s
  | .sgl => Sys2Proof.Machine.execSgl s
  | .dbl => Sys2Proof.Machine.execDbl s
  | .dxa => Sys2Proof.Machine.execDxa s
  | .exa => Sys2Proof.Machine.execExa s
  | .rmp => Sys2Proof.Machine.execRmp s
  | .sca => Sys2Proof.Machine.execSca s
  | .ink => Sys2Proof.Machine.execInk s
  | .nrm => Sys2Proof.Machine.execNrm s
  | .iab => Sys2Proof.Machine.execIab s
  | .enb => Sys2Proof.Machine.execEnb s
  | .inh => Sys2Proof.Machine.execInh s
  | .erm => Sys2Proof.Machine.execErm s
  | .chs => Sys2Proof.Machine.execChs s
  | .cra => Sys2Proof.Machine.execCra s
  | .ssp => Sys2Proof.Machine.execSsp s
  | .rcb => Sys2Proof.Machine.execRcb s
  | .csa => Sys2Proof.Machine.execCsa s
  | .cma => Sys2Proof.Machine.execCma s
  | .tca => Sys2Proof.Machine.execTca s
  | .ssm => Sys2Proof.Machine.execSsm s
  | .scb => Sys2Proof.Machine.execScb s
  | .car => Sys2Proof.Machine.execCar s
  | .cal => Sys2Proof.Machine.execCal s
  | .icl => Sys2Proof.Machine.execIcl s
  | .aoa => Sys2Proof.Machine.execAoa s
  | .aca => Sys2Proof.Machine.execAca s
  | .icr => Sys2Proof.Machine.execIcr s
  | .ica => Sys2Proof.Machine.execIca s
  | .skp => Sys2Proof.Machine.execSkp s
  | .nop => Sys2Proof.Machine.execNop s
  | .spl => Sys2Proof.Machine.execSpl s
  | .smi => Sys2Proof.Machine.execSmi s
  | .sze => Sys2Proof.Machine.execSze s
  | .snz => Sys2Proof.Machine.execSnz s
  | .slz => Sys2Proof.Machine.execSlz s
  | .sln => Sys2Proof.Machine.execSln s
  | .src => Sys2Proof.Machine.execSrc s
  | .ssc => Sys2Proof.Machine.execSsc s
  | .sr1 => Sys2Proof.Machine.execSr1 s
  | .sr2 => Sys2Proof.Machine.execSr2 s
  | .sr3 => Sys2Proof.Machine.execSr3 s
  | .sr4 => Sys2Proof.Machine.execSr4 s
  | .ssr => Sys2Proof.Machine.execSsr s
  | .ss1 => Sys2Proof.Machine.execSs1 s
  | .ss2 => Sys2Proof.Machine.execSs2 s
  | .ss3 => Sys2Proof.Machine.execSs3 s
  | .ss4 => Sys2Proof.Machine.execSs4 s
  | .sss => Sys2Proof.Machine.execSss s
  | .spn => Sys2Proof.Machine.execSpn s
  | .sps => Sys2Proof.Machine.execSps s

end Sys2Proof.Machine
end

