-- ==== Sys2Proof/Machine/Step.lean ====
section
/-! DEFINITION. One step of the machine (R10), and how a word is placed where the next step fetches it. -/

namespace Sys2Proof.Machine

/-- Fetch, decode and execute one instruction (R10, R72). -/
def fetchAndExecute (s : State) : Host.Outcome State Fault Refusal :=
  andThen (fetch s) fun w =>
    match decode (afterFetch s).dpBit w with
    | .ok i => exec i (afterFetch s)
    | .error (.unlistedEncoding u) => .refused (.unlistedEncoding u)

/-- One step (R10): none once the machine has halted (R37), none in restricted mode (R233); an interrupt that is
due is taken instead of the fetch (R273). -/
def step (s : State) : Host.Outcome State Fault Refusal :=
  if s.run = false then .fault .halted
  else if s.rmBit then .refused .restrictedModeUnmodelled
  else if (interruptDue s).1 then takeInterrupt (interruptDue s).2
  else fetchAndExecute (interruptDue s).2

/-- The low `nbits` bits of `w` as the one word of an instruction, stored at P (assumption 4 says how a program
comes to run). -/
def State.withFetchWord (s : State) (nbits w : Nat) : State := placeAtP s (BitVec.ofNat 16 (w % 2 ^ nbits))

end Sys2Proof.Machine
end

