-- ==== Sys2Proof/Machine/Launch.lean ====
section
/-! DEFINITION. The launch (R291): what is put into the machine from outside before a run, by a loader that is no part
of the run. -/

namespace Sys2Proof.Machine

/-- Memory after a finite image of (address, word) pairs is loaded into the `words` words installed: there is nothing
to load a word into elsewhere (R54, R291). -/
def loadImage (words : Nat) (image : List (Word × Word)) (m : Memory) : Memory :=
  image.foldl (fun n cell => if cell.1.toNat < words then n.writeWord cell.1.toNat cell.2 else n) m

/-- A launch (R291): the parameters of R5, `START_ADDRESS` among them, a memory image (X is its word 0, R24), and what
a claim fixes besides. What is `none` is as after reset. -/
structure Launch where
  parameters : Parameters := defaultParameters
  image : List (Word × Word) := []
  a : Option Word := none
  b : Option Word := none
  c : Option Bool := none
  sc : Option (BitVec 5) := none
  pi : Option Bool := none
  dp : Option Bool := none
  pmi : Option Bool := none
  rm : Option Bool := none
  mpe : Option Bool := none
  mask : Option Word := none
  mask2 : Option Word := none
  /-- The sense switches, if fixed (R35). -/
  switches : Option SenseSwitches := none
  /-- Answers of the environment, if fixed (R240). -/
  script : Script := Script.free
  deriving DecidableEq, Repr

/-- What R291 asks of a launch: the parameters within their bounds, an image that maps each address below `MEM_WORDS`
once, an indicator set only with its option (R30 to R33), and a start address of the addressing mode (R26). -/
def Launch.wf (l : Launch) : Bool :=
  l.parameters.wf && l.image.all (fun cell => decide (cell.1.toNat < l.parameters.memWords))
    && decide (l.image.map Prod.fst).Nodup
    && (l.parameters.hasHsa || l.dp != some true)
    && (l.parameters.hasExtendedAddressing || l.pmi != some true)
    && (l.parameters.hasMemoryLockout || l.rm != some true)
    && (l.parameters.hasMemoryParity || l.mpe != some true)
    && (l.pmi == some true || decide (l.parameters.startAddress.toNat < 2 ^ 14))

/-- The start of the run of a launch (R290, R291). -/
def Launch.state (l : Launch) : State :=
  { State.reset with
    a := l.a.getD State.reset.a
    b := l.b.getD State.reset.b
    p := l.parameters.startAddress
    c := l.c.getD State.reset.c
    sc := l.sc.getD State.reset.sc
    pi := l.pi.getD State.reset.pi
    dp := l.dp.getD State.reset.dp
    pmi := l.pmi.getD State.reset.pmi
    rm := l.rm.getD State.reset.rm
    mpe := l.mpe.getD State.reset.mpe
    mask := l.mask.getD State.reset.mask
    mask2 := l.mask2.getD State.reset.mask2
    switches := l.switches.getD State.reset.switches
    switchesFixed := l.switches.isSome
    mem := loadImage l.parameters.memWords l.image []
    script := l.script
    config := l.parameters }

/-- The launch that fixes parameters and an image and nothing else. -/
def launch (q : Parameters) (image : List (Word × Word)) : State := Launch.state { parameters := q, image := image }

/-- The sense switches fixed as a premise, in any state (R35, R291). -/
def fixSwitches (w : SenseSwitches) (s : State) : State := { s with switches := w, switchesFixed := true }

end Sys2Proof.Machine
end

