-- ==== Sys2Proof/Safety.lean ====
section
/-! DEFINITION. What a well-formed state, a completed instruction and a safe run are, in the terms claims use. -/

namespace Sys2Proof.Machine

/-- The invariant of the machine: what every state of a run satisfies. -/
structure State.Inv (s : State) : Prop where
  /-- Memory has its canonical form (assumption 2). -/
  memCanonical : s.mem.wf
  /-- Nothing is stored where no memory is installed (R54). -/
  memInstalled : s.mem.within s.config.memWords
  /-- P is an address: below `2^AW` at all times (R26). -/
  pInRange : s.p.toNat < 2 ^ s.aw
  /-- DP is the constant 0 without its option (R30). -/
  dpWired : s.config.hasHsa = false → s.dp = false
  /-- PMI is the constant 0 without its option (R31). -/
  pmiWired : s.config.hasExtendedAddressing = false → s.pmi = false
  /-- RM exists only with its option (R32). -/
  rmWired : s.config.hasMemoryLockout = false → s.rm = false
  /-- MPE is the constant 0 without its option (R33). -/
  mpeWired : s.config.hasMemoryParity = false → s.mpe = false

/-- The instruction completes with its own effect: it answers a next state. -/
def Completes (i : Instr) (s : State) : Prop := ∃ t, exec i s = .next t

/-- The effective address of a memory-reference instruction can be formed, and there is memory behind it. -/
def OperandAt (m : MemRef) (s : State) (r : Located) : Prop :=
  locateMem m s = .next r ∧ r.ea.toNat < s.config.memWords

/-- The same for LDX and STX (R83). -/
def XOperandAt (x : XRef) (s : State) (r : Located) : Prop :=
  locateX x s = .next r ∧ r.ea.toNat < s.config.memWords

/-- `t` is `s` after reads of memory: MPE may have been raised, and answers of the environment used up, nothing
else; without the parity option nothing at all (R33, R55). -/
def OnlyReadMemory (s t : State) : Prop :=
  t = { s with mpe := t.mpe, script := t.script, draws := t.draws } ∧
    (s.mpe = true → t.mpe = true) ∧ (s.config.hasMemoryParity = false → t = s)

/-- No byte outside the word at `a` differs between two memories. -/
def SameBytesOutside (a : Nat) (m n : Memory) : Prop :=
  ∀ k, k ≠ 2 * a → k ≠ 2 * a + 1 → n.readByte k = m.readByte k

/-- The machine executes instructions from `s`: it runs, not in restricted mode, and no interrupt is due. -/
def Executing (s : State) : Prop := s.run = true ∧ s.rmBit = false ∧ (interruptDue s).1 = false

/-- `k` steps from `s` complete, with no fault and no refusal. -/
def SafeFor (k : Nat) (s : State) : Prop := ∃ t : State, Host.Core.run core k s = .next t

end Sys2Proof.Machine
end

