-- ==== Sys2Proof/Certificates/Slice0/Obligations.lean ====
section
/-! DEFINITION. The statements for the provers: what the instructions and the machine do, from the rules of spec/.
`OperandAt` and `XOperandAt` (Safety.lean) say that the effective address can be formed and that memory is installed
there; `afterReads` is what the reads of an instruction may do, which `MemoryReadsTouchOnlyParity` bounds. -/

open Sys2Proof Sys2Proof.Machine

/-- For every instruction that some word stands for and every value of DP under which the decoder can select it,
decoding the encoded word gives that instruction, with every operand at every value. -/
def Obligations.DecodeOfEncode : Prop :=
  ∀ (dp : Bool) (i : Instr), i.wf = true → i.selectedBy dp = true → decode dp (encode i) = .ok i

/-- For every word and every value of DP, if the word decodes to an instruction, that instruction is well formed, is
one DP selects, and encodes to the same word: every word has at most one meaning in each mode and no bit of it
is dropped. -/
def Obligations.EncodeOfDecode : Prop :=
  ∀ (dp : Bool) (w : Word) (i : Instr), decode dp w = .ok i →
    encode i = w ∧ i.wf = true ∧ i.selectedBy dp = true

/-- Words that the spec prints for instructions of every format decode to those instructions; '004100 is LDA when DP
= 0 and DLD when DP = 1; '041577 is ALS with count field 63; '171020 is OTK and '170020 is SMK. -/
def Obligations.WordsOfTheSpecDecode : Prop :=
  decode false 0o004100 = .ok (.lda ⟨false, false, false, 0o100⟩) ∧
    decode true 0o004100 = .ok (.dld ⟨false, false, false, 0o100⟩) ∧
    decode false 0o144100 = .ok (.lda ⟨true, true, false, 0o100⟩) ∧
    decode false 0o103004 = .ok (.jmp ⟨true, false, true, 0o004⟩) ∧
    decode false 0o032100 = .ok (.stx ⟨false, false, 0o100⟩) ∧
    decode false 0o072100 = .ok (.ldx ⟨false, false, 0o100⟩) ∧
    decode false 0o041577 = .ok (.als 63) ∧ decode false 0o040470 = .ok (.lgr 0o70) ∧
    decode false 0o030104 = .ok (.ocp ⟨0o01, 0o04⟩) ∧ decode false 0o131004 = .ok (.ina ⟨0o10, 0o04⟩) ∧
    decode false 0o170020 = .ok (.smk .mask) ∧ decode false 0o170024 = .ok (.smk .mask2) ∧
    decode false 0o171020 = .ok .otk ∧ decode false 0o100036 = .ok .ssr ∧ decode false 0o141050 = .ok .cal ∧
    decode false 0o000000 = .ok .hlt ∧ decode false 0o141060 = .error (.unlistedEncoding 0o141060)

/-- In either mode a word is rejected exactly if it is a '000xxx, '14xxxx or '10xxxx generic word other than the 13,
16 and 22 listed ones, a shift word with K = 11, or an op '74 word with device '20 and function other than '00
and '10, or device '24 and function other than '00; and it is rejected under the name unlistedEncoding. -/
def Obligations.UnlistedWordsAreExactlyThese : Prop :=
  ∀ (dp : Bool) (w : Word),
    decode dp w = .error (.unlistedEncoding w) ↔
      (fieldOp w = 0 ∧ fieldHi2 w = 0 ∧
        w ∉ [0o000000, 0o000005, 0o000007, 0o000011, 0o000013, 0o000021, 0o000041, 0o000043, 0o000101, 0o000201,
             0o000401, 0o001001, 0o001401]) ∨
      (fieldOp w = 0 ∧ fieldHi2 w = 3 ∧
        w ∉ [0o140024, 0o140040, 0o140100, 0o140200, 0o140320, 0o140401, 0o140407, 0o140500, 0o140600, 0o141044,
             0o141050, 0o141140, 0o141206, 0o141216, 0o141240, 0o141340]) ∨
      (fieldOp w = 0 ∧ fieldHi2 w = 2 ∧
        w ∉ [0o100000, 0o101000, 0o100400, 0o101400, 0o100040, 0o101040, 0o100100, 0o101100, 0o100001, 0o101001,
             0o100020, 0o100010, 0o100004, 0o100002, 0o100036, 0o101020, 0o101010, 0o101004, 0o101002, 0o101036,
             0o100200, 0o101200]) ∨
      (fieldOp w = 0 ∧ fieldHi2 w = 1 ∧ fieldK w = 3) ∨
      (fieldOp w = 0o14 ∧ fieldHi2 w = 3 ∧ (fieldIo w).d = 0o20 ∧ (fieldIo w).f ≠ 0o00 ∧ (fieldIo w).f ≠ 0o10) ∨
      (fieldOp w = 0o14 ∧ fieldHi2 w = 3 ∧ (fieldIo w).d = 0o24 ∧ (fieldIo w).f ≠ 0o00)

/-- The reset state has PI, ENB_PENDING, DP, PMI and RM 0, RUN 1, P at START_ADDRESS, no free value drawn and no
call recorded. The six indicators and P are the spec's own decision D28 (no source gives them). That the counter
of draws, which is the model's own, starts at 0 is the model's choice (log entry 5, DESIGN CHOICE), and that the
history is a field of the state, empty at reset, is log entry 18 (DESIGN CHOICE). The registers D28 leaves
unspecified are not mentioned. -/
def Obligations.ResetState : Prop :=
  State.reset.pi = false ∧ State.reset.enbPending = false ∧ State.reset.dp = false ∧ State.reset.pmi = false ∧
    State.reset.rm = false ∧ State.reset.run = true ∧ State.reset.p = State.reset.config.startAddress ∧
    State.reset.draws = 0 ∧ State.reset.events = []

/-- State.reset has canonical memory within the installed words, P below 2^AW, and every indicator of an absent
option at 0; its parameters obey the bounds of the spec. So does the start state of every launch whose image
maps addresses below MEM_WORDS once each; there P is START_ADDRESS, the parameters are the launch's, and every
address of the image reads as the launch gives it. -/
def Obligations.ResetKeepsTheInvariant : Prop :=
  (State.reset.Inv ∧ State.reset.config.wf = true) ∧
    ∀ l : Launch, l.wf = true →
      l.state.Inv ∧ l.state.config = l.parameters ∧ l.state.p = l.parameters.startAddress ∧
        ∀ (a v : Word), (a, v) ∈ l.image → l.state.mem.readWord a.toNat = v

/-- From every state with canonical memory within the installed words, P below 2^AW and the indicators of absent
options at 0, a step that answers a next state, be it an instruction or an interrupt entry, answers one with all
of that. -/
def Obligations.StepKeepsTheInvariant : Prop :=
  ∀ s t : State, s.Inv → step s = .next t → t.Inv

/-- A step that answers a next state leaves the parameters, the sense switch setting and whether it is fixed as they
were: the switches are ones the program can test and cannot set. -/
def Obligations.StepKeepsParametersAndSwitches : Prop :=
  ∀ s t : State, step s = .next t →
    t.config = s.config ∧ t.switches = s.switches ∧ t.switchesFixed = s.switchesFixed

/-- Where the machine runs, not in restricted mode, with no interrupt due, and the word at P decodes to i, the step
is exec of i on the state after the question about an interrupt and the fetch: P one further modulo 2^AW,
ENB_PENDING 0, and otherwise only what a memory read may change. That ENB_PENDING is 0 already while the
instruction executes is the model's (log entry 12, DEDUCED): the spec clears it at the end of the step unless
the instruction was ENB, which InstructionStepEndsEnbPending states. -/
def Obligations.StepRunsTheDecodedInstruction : Prop :=
  ∀ (s u : State) (i : Instr), Executing s → (interruptDue s).2 = u → u.p.toNat < u.config.memWords →
    decode u.dpBit (u.mem.readWord u.p.toNat) = .ok i →
    step s = exec i (afterFetch u) ∧ (∃ k n, u = (s.setScript k).setDraws n) ∧
      afterFetch u = ((afterReads [u.p] u).setP (BitVec.ofNat 16 ((u.p.toNat + 1) % 2 ^ u.aw))).setEnbPending false ∧
      OnlyReadMemory u (afterReads [u.p] u)

/-- After HLT (RUN = 0) a step is the fault halted; where instructions are executed, a word at P that fits no row is
refused as unlistedEncoding, and P at or above MEM_WORDS is the fault noMemory. The spec refuses the last
(refuse(no_memory)) and ends the run at the first; that the two are faults of these names is the model's choice
(log entries 16 and 33, DESIGN CHOICE). -/
def Obligations.StepStopsWhereNoInstructionIs : Prop :=
  (∀ s : State, s.run = false → step s = .fault .halted) ∧
    (∀ s u : State, Executing s → (interruptDue s).2 = u → ¬u.p.toNat < u.config.memWords →
      step s = .fault (.noMemory u.p)) ∧
    (∀ (s u : State) (w : Word), Executing s → (interruptDue s).2 = u → u.p.toNat < u.config.memWords →
      u.mem.readWord u.p.toNat = w → decode u.dpBit w = .error (.unlistedEncoding w) →
      step s = .refused (.unlistedEncoding w))

/-- With RUN = 1, PI = 1, ENB_PENDING = 0, a request of the environment, no extended addressing option and not in
restricted mode, the step clears PI, stores P in bits 3 to 16 of the word at the effective address of an
indirect reference through INT_VECTOR, keeps bits 1 and 2 of that word, and continues at the word after it;
nothing else is saved or changed but the answer used up and what the reads may change. The mechanism is the
spec's decision D24. -/
def Obligations.StepTakesADueInterrupt : Prop :=
  ∀ (s u : State) (r : Located), s.run = true → s.pi = true → s.enbPending = false → s.rmBit = false →
    s.config.hasExtendedAddressing = false → askInterrupt s = (true, u) →
    resolve true false s.config.intVector s = .next r → r.ea.toNat < s.config.memWords →
    (∃ k n, u = (s.setScript k).setDraws n) ∧
      step s = .next
        (((afterReads (r.path ++ [r.ea]) (u.setPI false)).setMem
            (s.mem.writeWord r.ea.toNat ((s.mem.readWord r.ea.toNat &&& 0xC000) ||| (s.p &&& 0x3FFF)))).setP
          (BitVec.ofNat 16 ((r.ea.toNat + 1) % 2 ^ 14))) ∧
      OnlyReadMemory (u.setPI false) (afterReads (r.path ++ [r.ea]) (u.setPI false))

/-- While PI is 0 or ENB_PENDING is 1 no interrupt is due (decision D24 of the spec), and the environment is not
asked, which is the model's (log entry 19, DEDUCED): the step of a running machine outside restricted mode is
the fetch and execution from the same state. On a machine with the extended addressing option, running, outside
restricted mode, a due interrupt makes the step a refusal, as the spec says (it does not model the forced
extended mode of the real machine). -/
def Obligations.WhenNoInterruptIsTaken : Prop :=
  (∀ s : State, s.run = true → s.rmBit = false → (s.pi = false ∨ s.enbPending = true) →
      step s = fetchAndExecute s) ∧
  (∀ s : State, s.run = true → s.rmBit = false → s.config.hasExtendedAddressing = true →
      (interruptDue s).1 = true → step s = .refused .interruptEntryExtended)

/-- A step that executes an instruction other than ENB and answers a next state leaves ENB_PENDING at 0; after ENB
it is 1. -/
def Obligations.InstructionStepEndsEnbPending : Prop :=
  ∀ (s t : State) (i : Instr), Executing s →
    decode s.dpBit (s.mem.readWord s.p.toNat) = .ok i → step s = .next t →
    (i ≠ .enb → t.enbPending = false) ∧ (i = .enb → t.enbPending = true)

/-- Without extended addressing, where the word at INT_VECTOR addresses a link word directly and bits 1 and 2 of the
link word are 0, an entry leads to the word after the link word with PI = 0, and an indirect jump through the
link word from there sets P to the interrupted P. -/
def Obligations.InterruptThenReturn : Prop :=
  ∀ (s : State) (link : Word), s.config.hasExtendedAddressing = false → s.rmBit = false → s.p.toNat < 2 ^ 14 →
    s.config.intVector.toNat < s.config.memWords → link.toNat < s.config.memWords → link.toNat < 2 ^ 14 →
    s.mem.readWord s.config.intVector.toNat = link →
    bit (s.mem.readWord link.toNat) 1 = false → bit (s.mem.readWord link.toNat) 2 = false →
    ∃ t u : State, takeInterrupt s = .next t ∧ t.pi = false ∧
      t.p = BitVec.ofNat 16 ((link.toNat + 1) % 2 ^ 14) ∧
      jumpTo (resolve true false link t) t = .next u ∧ u.p = s.p

/-- After any list of memory reads the state is the same but for MPE, which may only have been raised, and the
answers of the environment used up; on a machine without the parity option it is the same state. With the option
each read asks the environment once, in order, and an answer of bad parity leaves MPE at 1, whatever is read
afterwards; an answer the launch fixes is the answer. That one answer is drawn for each word read is the model's
choice (log entry 21, DESIGN CHOICE), and so is the form in which a launch fixes it (log entry 6, DESIGN
CHOICE). -/
def Obligations.MemoryReadsTouchOnlyParity : Prop :=
  (∀ (l : List Word) (s : State), OnlyReadMemory s (afterReads l s)) ∧
    (∀ (a : Word) (l : List Word) (s u : State) (bad : Bool), s.config.hasMemoryParity = true →
      askParity a s = (bad, u) →
      (∃ k n, u = (s.setScript k).setDraws n) ∧
        afterReads (a :: l) s = afterReads l (u.setMPE (s.mpe || bad)) ∧
        (bad = true → (afterReads (a :: l) s).mpe = true)) ∧
    (∀ (a : Word) (s : State) (bad : Bool) (rest : List Bool), s.script.parity = bad :: rest →
      askParity a s = (bad, s.setScript { s.script with parity := rest }))

/-- Without the indirect bit the effective address is Y, or Y + X modulo 2^AW with the index bit, where Y is the
address field in sector zero, or in the sector of the instruction, whose own address is one below P; no indirect
word is read. LDX and STX are not indexed by their own index bit. -/
def Obligations.DirectAddress : Prop :=
  (∀ (m : MemRef) (s : State), m.indirect = false →
      ∃ y : Nat, locateMem m s = .next
          { ea := BitVec.ofNat 16 ((y + (if m.indexed then (s.mem.readWord 0).toNat else 0)) % 2 ^ s.aw), path := [] } ∧
        (m.sector = false → y = m.disp.toNat) ∧
        (m.sector = true →
          ∃ pf < 2 ^ s.aw, (pf + 1) % 2 ^ s.aw = s.p.toNat % 2 ^ s.aw ∧ y = pf - pf % 512 + m.disp.toNat)) ∧
    (∀ (x : XRef) (s : State), x.indirect = false →
      locateX x s = locateMem ⟨false, false, x.sector, x.disp⟩ s)

/-- An indirect reference starts at Y, in sector zero or in the instruction's sector, with its index bit; LDX and
STX start there with no index bit. With PMI = 0 the indirect word is read at Y, plus X if T = 1, and with PMI =
1 at Y. If its indirect bit is 0 the effective address is its low 14 bits, plus X if its index bit is 1, or with
PMI = 1 its low 15 bits, plus X if T = 1. If its indirect bit is 1 the chain goes on as from its address bits,
with its index bit when PMI = 0 and with the same T when PMI = 1. If that word cannot be read the chain stops as
the read does. All sums are modulo 2^14 or 2^15; the words read are listed in order. -/
def Obligations.OneIndirectWord : Prop :=
  (∀ (m : MemRef) (s : State), m.indirect = true →
      ∃ y : Nat, locateMem m s = resolve true m.indexed (BitVec.ofNat 16 y) s ∧
        (m.sector = false → y = m.disp.toNat) ∧
        (m.sector = true →
          ∃ pf < 2 ^ s.aw, (pf + 1) % 2 ^ s.aw = s.p.toNat % 2 ^ s.aw ∧ y = pf - pf % 512 + m.disp.toNat)) ∧
    (∀ (x : XRef) (s : State), x.indirect = true →
      locateX x s = locateMem ⟨true, false, x.sector, x.disp⟩ s) ∧
    (∀ (t : Bool) (y i m : Word) (s : State), s.pmiBit = false →
      i = (if t then BitVec.ofNat 16 ((y.toNat + s.x.toNat) % 2 ^ 14) else y) → wordAt i s = .next m →
      (bit m 1 = false → resolve true t y s = .next
        { ea := if bit m 2 then BitVec.ofNat 16 (((m &&& 0x3FFF).toNat + s.x.toNat) % 2 ^ 14) else m &&& 0x3FFF
          path := [i] }) ∧
      (bit m 1 = true → y.toNat < 2 ^ 14 → resolve true t y s =
        andThen (resolve true (bit m 2) (m &&& 0x3FFF) s) fun r => .next { r with path := i :: r.path })) ∧
    (∀ (t : Bool) (y m : Word) (s : State), s.pmiBit = true → wordAt y s = .next m →
      (bit m 1 = false → resolve true t y s = .next
        { ea := if t then BitVec.ofNat 16 (((m &&& 0x7FFF).toNat + s.x.toNat) % 2 ^ 15) else m &&& 0x7FFF
          path := [y] }) ∧
      (bit m 1 = true → y.toNat < 2 ^ 15 → resolve true t y s =
        andThen (resolve true t (m &&& 0x7FFF) s) fun r => .next { r with path := y :: r.path })) ∧
    (∀ (t : Bool) (y i : Word) (f : Fault) (s : State),
      i = (if !s.pmiBit && t then BitVec.ofNat 16 ((y.toNat + s.x.toNat) % 2 ^ 14) else y) →
      wordAt i s = .fault f → resolve true t y s = .fault f)

/-- For any address of the mode and any larger bound the effective-address loop answers the same as with the model's
bound 2^AW, in both modes. So the fault endlessIndirection is raised only where the loop of the spec never ends. -/
def Obligations.ChainBoundCutsOnlyEndlessChains : Prop :=
  (∀ (k : Nat) (i t : Bool) (y : Word) (s : State), y.toNat < 2 ^ 14 →
      normalChain (chainLimit 14 + k) i t y s = normalChain (chainLimit 14) i t y s) ∧
    (∀ (k : Nat) (i : Bool) (y : Word) (s : State), y.toNat < 2 ^ 15 →
      extendedChain (chainLimit 15 + k) i y s = extendedChain (chainLimit 15) i y s)

/-- If two memories have the canonical form and every word address reads the same in both, they are equal lists. -/
def Obligations.CanonicalMemoriesThatReadAlikeAreEqual : Prop :=
  ∀ m n : Memory, m.wf → n.wf → (∀ a, m.readWord a = n.readWord a) → m = n

/-- LDA is decoded from its word when DP = 0; where its operand is installed memory it answers the state after the
reads of its chain and operand with A the word read, and nothing else changed. ANA has op code '03; where its
operand is installed memory it answers the state after the reads with A the bitwise and of A and the operand,
nothing else changed. -/
def Obligations.LoadAndAnd : Prop :=
  (∀ (m : MemRef) (s : State) (r : Located), OperandAt m s r →
      decode false (encode (.lda m)) = .ok (.lda m) ∧
        exec (.lda m) s = .next ((afterReads (r.path ++ [r.ea]) s).setA (s.mem.readWord r.ea.toNat))) ∧
  (∀ (m : MemRef) (s : State) (r : Located), OperandAt m s r →
      fieldOp (encode (.ana m)) = 0o03 ∧
        exec (.ana m) s = .next ((afterReads (r.path ++ [r.ea]) s).setA (s.a &&& (s.mem.readWord r.ea.toNat))))

/-- STA is decoded from its word when DP = 0; where its effective address is installed memory and the machine is not
in restricted mode, it answers the state after the reads of its chain with the word at the effective address
equal to A; A is unchanged and so is every byte outside that word, and a later fetch at the stored address with
that memory reads the stored word. -/
def Obligations.StaStoresA : Prop :=
  ∀ (m : MemRef) (s : State) (r : Located), OperandAt m s r → s.rmBit = false →
    decode false (encode (.sta m)) = .ok (.sta m) ∧
      exec (.sta m) s = .next ((afterReads r.path s).setMem (s.mem.writeWord r.ea.toNat s.a)) ∧
      (s.mem.writeWord r.ea.toNat s.a).readWord r.ea.toNat = s.a ∧
      SameBytesOutside r.ea.toNat s.mem (s.mem.writeWord r.ea.toNat s.a) ∧
      ∀ u : State, u.mem = s.mem.writeWord r.ea.toNat s.a → u.config = s.config → u.p = r.ea → fetch u = .next s.a

/-- With the option present, LDX copies its operand into memory word 0, which is X, and STX stores X at its
effective address, in installed memory and outside restricted mode; no other byte changes. Without the option
both are refused as optionAbsent. IMA writes A to the word at its effective address and the old word to A, in
installed memory outside restricted mode; no byte outside that word and no other register changes. Decision D21
of the spec. -/
def Obligations.IndexMovesAndInterchange : Prop :=
  (∀ (x : XRef) (s : State),
      (s.config.hasIndexLdxStx = false →
        exec (.ldx x) s = .refused (.optionAbsent .indexLdxStx) ∧
          exec (.stx x) s = .refused (.optionAbsent .indexLdxStx)) ∧
      (∀ r : Located, s.config.hasIndexLdxStx = true → XOperandAt x s r → s.rmBit = false →
        exec (.ldx x) s = .next ((afterReads (r.path ++ [r.ea]) s).setMem
            (s.mem.writeWord 0 (s.mem.readWord r.ea.toNat))) ∧
          exec (.stx x) s = .next ((afterReads r.path s).setMem (s.mem.writeWord r.ea.toNat s.x)) ∧
          SameBytesOutside 0 s.mem (s.mem.writeWord 0 (s.mem.readWord r.ea.toNat)) ∧
          SameBytesOutside r.ea.toNat s.mem (s.mem.writeWord r.ea.toNat s.x))) ∧
  (∀ (m : MemRef) (s : State) (r : Located), OperandAt m s r → s.rmBit = false →
      exec (.ima m) s = .next (((afterReads (r.path ++ [r.ea]) s).setMem (s.mem.writeWord r.ea.toNat s.a)).setA (s.mem.readWord r.ea.toNat)) ∧
        SameBytesOutside r.ea.toNat s.mem (s.mem.writeWord r.ea.toNat s.a))

/-- With the high-speed arithmetic option, DLD loads A from EA and B from EA + 1 modulo 2^AW; DST stores A at EA and
then B at EA + 1 modulo 2^AW, outside restricted mode. Both words must be installed. No byte outside the two
words changes. -/
def Obligations.DoubleLoadAndStore : Prop :=
  ∀ (m : MemRef) (s : State) (r : Located) (e : Word), s.config.hasHsa = true → OperandAt m s r →
    e = BitVec.ofNat 16 ((r.ea.toNat + 1) % 2 ^ s.aw) → e.toNat < s.config.memWords →
    exec (.dld m) s = .next (((afterReads (r.path ++ [r.ea, e]) s).setA (s.mem.readWord r.ea.toNat)).setB
        (s.mem.readWord e.toNat)) ∧
      (s.rmBit = false → exec (.dst m) s = .next ((afterReads r.path s).setMem
        ((s.mem.writeWord r.ea.toNat s.a).writeWord e.toNat s.b))) ∧
      (∀ k, k ≠ 2 * r.ea.toNat → k ≠ 2 * r.ea.toNat + 1 → k ≠ 2 * e.toNat → k ≠ 2 * e.toNat + 1 →
        ((s.mem.writeWord r.ea.toNat s.a).writeWord e.toNat s.b).readByte k = s.mem.readByte k)

/-- CRA, whose word is '140040, answers the state with A = 0 and everything else, C included, as it was; that C is
unchanged is the spec's inference. IAB answers the state with A and B interchanged and nothing else changed.
Decision D21 of the spec. CAL leaves the right half of A below eight zeros, CAR the left half above eight zeros;
nothing else changes. -/
def Obligations.ClearsAndInterchange : Prop :=
  (encode .cra = 0o140040 ∧ ∀ s : State, exec .cra s = .next (s.setA 0)) ∧
  (∀ s : State, exec .iab s = .next ((s.setA s.b).setB s.a)) ∧
  (∀ s : State, exec .cal s = .next (s.setA ((0 : BitVec 8) ++ s.a.extractLsb' 0 8)) ∧
      exec .car s = .next (s.setA (s.a.extractLsb' 8 8 ++ (0 : BitVec 8))))

/-- SCA has the word '000041; with its option it answers the state with A the five bits of SC below eleven zeros,
nothing else changed; without the option it is refused. NOP has the word '101000 and answers the state it is
given: P is already at the next instruction. -/
def Obligations.ScaAndNop : Prop :=
  (encode .sca = 0o000041 ∧ ∀ s : State,
      (s.config.hasHsa = true → exec .sca s = .next (s.setA ((0 : BitVec 11) ++ s.sc))) ∧
      (s.config.hasHsa = false → exec .sca s = .refused (.optionAbsent .highSpeedArithmetic))) ∧
  (encode .nop = 0o101000 ∧ ∀ s : State, exec .nop s = .next s)

/-- Without the high-speed arithmetic option DLD, DST, DAD, DSB, MPY and DIV are refused as optionAbsent. Every
memory-reference instruction, LDX and STX included, whose effective address cannot be formed stops with that
fault. Where no memory is installed at the effective address, or at the second word of a double-word operand,
one that reads or stores there is the fault noMemory at that address. In restricted mode every store is refused,
that of LDX to X included. The spec refuses where no memory is (refuse(no_memory)) and gives writes no meaning
in restricted mode; that the first is a fault is the model's choice (log entry 16, DESIGN CHOICE), and so is
that the store alone is refused by exec and before it is asked whether memory is installed there (log entry 25,
DESIGN CHOICE). -/
def Obligations.StopsOfTheMemoryInstructions : Prop :=
  (∀ (m : MemRef) (s : State),
      (s.config.hasHsa = false → ∀ i ∈ [Instr.dld m, .dst m, .dad m, .dsb m, .mpy m, .div m],
        exec i s = .refused (.optionAbsent .highSpeedArithmetic)) ∧
      (∀ f : Fault, locateMem m s = .fault f →
        (∀ i ∈ [Instr.jmp m, .lda m, .ana m, .sta m, .era m, .add m, .sub m, .jst m, .cas m, .irs m, .ima m],
          exec i s = .fault f) ∧
        (s.config.hasHsa = true → ∀ i ∈ [Instr.dld m, .dst m, .dad m, .dsb m, .mpy m, .div m],
          exec i s = .fault f)) ∧
      (∀ r : Located, locateMem m s = .next r → ¬r.ea.toNat < s.config.memWords →
        (∀ i ∈ [Instr.lda m, .ana m, .era m, .add m, .sub m, .jst m, .cas m, .irs m, .ima m],
          exec i s = .fault (.noMemory r.ea)) ∧
        (s.config.hasHsa = true → ∀ i ∈ [Instr.dld m, .dad m, .dsb m, .mpy m, .div m],
          exec i s = .fault (.noMemory r.ea)) ∧
        (s.rmBit = false → exec (.sta m) s = .fault (.noMemory r.ea) ∧
          (s.config.hasHsa = true → exec (.dst m) s = .fault (.noMemory r.ea)))) ∧
      (∀ (r : Located) (e : Word), s.config.hasHsa = true → OperandAt m s r →
        e = BitVec.ofNat 16 ((r.ea.toNat + 1) % 2 ^ s.aw) → ¬e.toNat < s.config.memWords →
        (∀ i ∈ [Instr.dld m, .dad m, .dsb m], exec i s = .fault (.noMemory e)) ∧
        (s.rmBit = false → exec (.dst m) s = .fault (.noMemory e))) ∧
      (∀ r : Located, s.rmBit = true → locateMem m s = .next r →
        exec (.sta m) s = .refused .restrictedModeUnmodelled ∧
        (s.config.hasHsa = true → exec (.dst m) s = .refused .restrictedModeUnmodelled) ∧
        (r.ea.toNat < s.config.memWords →
          ∀ i ∈ [Instr.jst m, .irs m, .ima m], exec i s = .refused .restrictedModeUnmodelled))) ∧
    (∀ (x : XRef) (s : State), s.config.hasIndexLdxStx = true →
      (∀ f : Fault, locateX x s = .fault f → exec (.ldx x) s = .fault f ∧ exec (.stx x) s = .fault f) ∧
      (∀ r : Located, locateX x s = .next r →
        (¬r.ea.toNat < s.config.memWords → exec (.ldx x) s = .fault (.noMemory r.ea) ∧
          (s.rmBit = false → exec (.stx x) s = .fault (.noMemory r.ea))) ∧
        (s.rmBit = true → exec (.stx x) s = .refused .restrictedModeUnmodelled ∧
          (r.ea.toNat < s.config.memWords → exec (.ldx x) s = .refused .restrictedModeUnmodelled))))

/-- ICA ('141340) interchanges the halves of A; ICL ('141140) moves the left half to the right and clears the left;
ICR ('141240) moves the right half to the left and clears the right. Nothing else changes. -/
def Obligations.HalfWordInterchanges : Prop :=
  encode .ica = 0o141340 ∧ encode .icl = 0o141140 ∧ encode .icr = 0o141240 ∧ ∀ s : State,
    exec .ica s = .next (s.setA (s.a.extractLsb' 0 8 ++ s.a.extractLsb' 8 8)) ∧
      exec .icl s = .next (s.setA ((0 : BitVec 8) ++ s.a.extractLsb' 8 8)) ∧
      exec .icr s = .next (s.setA (s.a.extractLsb' 0 8 ++ (0 : BitVec 8)))

/-- Where the operand is installed memory, ADD and SUB answer the state after the reads with A the exact sum or
difference of the signed values modulo 2^16 and C set exactly if that exact result lies outside -32768 .. 32767;
nothing else changes. Decision D16 of the spec. Where its operand is installed memory ERA answers the state
after the reads with A the bitwise exclusive or of A and the operand, memory and everything else unchanged.
Decision D21 of the spec. -/
def Obligations.AddSubtractAndExclusiveOr : Prop :=
  (∀ (m : MemRef) (s : State) (r : Located), OperandAt m s r →
      exec (.add m) s = .next (((afterReads (r.path ++ [r.ea]) s).setA (BitVec.ofInt 16 (s.a.toInt + (s.mem.readWord r.ea.toNat).toInt))).setC
          (decide (s.a.toInt + (s.mem.readWord r.ea.toNat).toInt < -32768 ∨ s.a.toInt + (s.mem.readWord r.ea.toNat).toInt > 32767))) ∧
        exec (.sub m) s = .next (((afterReads (r.path ++ [r.ea]) s).setA (BitVec.ofInt 16 (s.a.toInt - (s.mem.readWord r.ea.toNat).toInt))).setC
          (decide (s.a.toInt - (s.mem.readWord r.ea.toNat).toInt < -32768 ∨ s.a.toInt - (s.mem.readWord r.ea.toNat).toInt > 32767)))) ∧
  (∀ (m : MemRef) (s : State) (r : Located), OperandAt m s r →
      exec (.era m) s = .next ((afterReads (r.path ++ [r.ea]) s).setA (s.a ^^^ (s.mem.readWord r.ea.toNat))))

/-- With the option and both operand words installed, DAD and DSB answer a state whose A and B hold, in the 31-bit
format with bit 1 of B zero, the exact sum or difference modulo 2^31; C is set exactly if the exact result does
not fit, and if C is 0 the pair's value is the exact result. Nothing else changes but what the reads may. -/
def Obligations.DoubleAddAndSubtract : Prop :=
  ∀ (m : MemRef) (s : State) (r : Located) (e : Word), s.config.hasHsa = true → OperandAt m s r →
    e = BitVec.ofNat 16 ((r.ea.toNat + 1) % 2 ^ s.aw) → e.toNat < s.config.memWords →
    ∀ (i : Instr) (n : Int),
      (i = .dad m ∧ n = (dpNum s.a s.b).toInt + (dpNum (s.mem.readWord r.ea.toNat) (s.mem.readWord e.toNat)).toInt) ∨
        (i = .dsb m ∧ n = (dpNum s.a s.b).toInt - (dpNum (s.mem.readWord r.ea.toNat) (s.mem.readWord e.toNat)).toInt) →
      ∃ (a b : Word) (c : Bool),
        exec i s = .next ((((afterReads (r.path ++ [r.ea, e]) s).setA a).setB b).setC c) ∧
          dpNum a b = BitVec.ofInt 31 n ∧ bit b 1 = false ∧ (c = true ↔ n < -(2 ^ 30) ∨ n > 2 ^ 30 - 1) ∧
          (c = false → (dpNum a b).toInt = n)

/-- With the option and an installed operand, MPY of factors not both '100000 answers a state whose A and B hold the
exact product in the 31-bit format, bit 1 of B zero, and nothing else changed, C included. Of '100000 by '100000
it answers, under the parameter's default draws, a state in which only A, B, C and the number of free values
drawn may differ, and under values the state with the A and B of the parameter and its C, or C as it was where
it names none. That values may name no C is the model's choice (log entry 9, DESIGN CHOICE). -/
def Obligations.MultiplyIsExact : Prop :=
  ∀ (m : MemRef) (s : State) (r : Located), s.config.hasHsa = true → OperandAt m s r →
    (¬(s.a = 0x8000 ∧ (s.mem.readWord r.ea.toNat) = 0x8000) →
      ∃ a b : Word, exec (.mpy m) s = .next (((afterReads (r.path ++ [r.ea]) s).setA a).setB b) ∧
        (dpNum a b).toInt = s.a.toInt * (s.mem.readWord r.ea.toNat).toInt ∧ bit b 1 = false) ∧
    (s.a = 0x8000 ∧ (s.mem.readWord r.ea.toNat) = 0x8000 →
      (s.config.mpyMinMin = .draws → ∃ (a b : Word) (c : Bool) (n : Nat),
        exec (.mpy m) s = .next (((((afterReads (r.path ++ [r.ea]) s).setDraws n).setA a).setB b).setC c)) ∧
      (∀ (a b : Word) (c : Option Bool), s.config.mpyMinMin = .values a b c →
        exec (.mpy m) s = .next ((((afterReads (r.path ++ [r.ea]) s).setA a).setB b).setC (c.getD s.c))))

/-- With the option and an installed operand d: if d = 0 the divide is improper, C = 1 and only A, B and the number
of draws besides may differ. Else, for operands the parameter DIV_FN does not answer apart, with q the quotient
in its rounding: if q lies in -32767 .. 32767, A = q, C = 0, q times d plus B is the dividend, and B is smaller
than d in magnitude, of the dividend's sign where the rounding is toward zero (the spec's default), of the
divisor's where it is the floor, never negative where it is euclidean; if q is over 32767 or below -32768 the
divide is improper. Operands that DIV_FN answers apart divide as it says. Nothing else changes. Decision D18;
the two further roundings and the operands answered apart are the model's form of the parameter (log entry 9,
DESIGN CHOICE). -/
def Obligations.DivideIsExactWhereProper : Prop :=
  ∀ (m : MemRef) (s : State) (r : Located) (d : Int), s.config.hasHsa = true → OperandAt m s r →
    d = (s.mem.readWord r.ea.toNat).toInt →
    let improper : Prop := ∃ (a b : Word) (n : Nat),
      exec (.div m) s = .next (((((afterReads (r.path ++ [r.ea]) s).setDraws n).setA a).setB b).setC true)
    (d = 0 → improper) ∧
    (d ≠ 0 → s.config.divFn.exceptions.find? (fun e => e.dividend == dpNum s.a s.b && e.divisor == (s.mem.readWord r.ea.toNat)) = none → ∀ q : Int,
      ((s.config.divFn.rounding = .towardZero ∧ q = (dpNum s.a s.b).toInt.tdiv d) ∨
        (s.config.divFn.rounding = .floor ∧ q = (dpNum s.a s.b).toInt.fdiv d) ∨
        (s.config.divFn.rounding = .euclidean ∧ q = (dpNum s.a s.b).toInt.ediv d)) →
      (-32767 ≤ q → q ≤ 32767 →
        ∃ a b : Word, exec (.div m) s = .next ((((afterReads (r.path ++ [r.ea]) s).setA a).setB b).setC false) ∧
          a.toInt = q ∧ q * d + b.toInt = (dpNum s.a s.b).toInt ∧ |b.toInt| < |d| ∧
          (s.config.divFn.rounding = .towardZero → b.toInt = 0 ∨ (b.toInt < 0 ↔ (dpNum s.a s.b).toInt < 0)) ∧
          (s.config.divFn.rounding = .floor → b.toInt = 0 ∨ (b.toInt < 0 ↔ d < 0)) ∧
          (s.config.divFn.rounding = .euclidean → 0 ≤ b.toInt)) ∧
      (q < -32768 ∨ 32767 < q → improper)) ∧
    (∀ e : DivEntry, d ≠ 0 → s.config.divFn.exceptions.find? (fun e => e.dividend == dpNum s.a s.b && e.divisor == (s.mem.readWord r.ea.toNat)) = some e →
      (∀ q rem : Int, e.result = some (q, rem) →
        exec (.div m) s = .next ((((afterReads (r.path ++ [r.ea]) s).setA (BitVec.ofInt 16 q)).setB
          (BitVec.ofInt 16 rem)).setC false)) ∧
      (e.result = none → improper))

/-- Where the quotient in the rounding of DIV_FN is -32768, for operands it does not answer apart, the parameter's
default refuse makes DIV a refusal, proper a proper divide with A = '100000 and the remainder in B, improper an
improper divide; undecided, the model's own value of assumption 10, one of the last two. That the instruction
runs under undecided is the model's choice. -/
def Obligations.DivideAtTheLimit : Prop :=
  ∀ (m : MemRef) (s : State) (r : Located) (d q : Int), s.config.hasHsa = true → OperandAt m s r →
    d = (s.mem.readWord r.ea.toNat).toInt → d ≠ 0 → s.config.divFn.exceptions.find? (fun e => e.dividend == dpNum s.a s.b && e.divisor == (s.mem.readWord r.ea.toNat)) = none →
    ((s.config.divFn.rounding = .towardZero ∧ q = (dpNum s.a s.b).toInt.tdiv d) ∨
        (s.config.divFn.rounding = .floor ∧ q = (dpNum s.a s.b).toInt.fdiv d) ∨
        (s.config.divFn.rounding = .euclidean ∧ q = (dpNum s.a s.b).toInt.ediv d)) → q = -32768 →
    let proper : Prop := exec (.div m) s = .next ((((afterReads (r.path ++ [r.ea]) s).setA 0x8000).setB
        (BitVec.ofInt 16 ((dpNum s.a s.b).toInt + 32768 * d))).setC false)
    let improper : Prop := ∃ (a b : Word) (n : Nat),
      exec (.div m) s = .next (((((afterReads (r.path ++ [r.ea]) s).setDraws n).setA a).setB b).setC true)
    (s.config.divFn.atLimit = .refuse → exec (.div m) s = .refused .divQuotientUndecided) ∧
      (s.config.divFn.atLimit = .proper → proper) ∧ (s.config.divFn.atLimit = .improper → improper) ∧
      (s.config.divFn.atLimit = .undecided → proper ∨ improper)

/-- ACA and AOA answer the state with A increased by C or by 1 modulo 2^16 and C set exactly if the exact result is
over 32767; nothing else changes. Decisions D16 and D21 of the spec. SSM, SSP and CHS answer the state with bit
1 of A set, clear or complemented and bits 2 to 16 as they were; CMA with every bit of A complemented; C and
everything else unchanged. Decision D21 of the spec. -/
def Obligations.IncrementsSignsAndComplement : Prop :=
  (∀ s : State,
      exec .aca s = .next ((s.setA (s.a + (if s.c then 1 else 0))).setC (s.c && decide (s.a = 0x7FFF))) ∧
        exec .aoa s = .next ((s.setA (s.a + 1)).setC (decide (s.a = 0x7FFF)))) ∧
  (∀ s : State,
      exec .ssm s = .next (s.setA ((1 : BitVec 1) ++ s.a.extractLsb' 0 15)) ∧
        exec .ssp s = .next (s.setA ((0 : BitVec 1) ++ s.a.extractLsb' 0 15)) ∧
        exec .chs s = .next (s.setA (BitVec.ofBool (!bit s.a 1) ++ s.a.extractLsb' 0 15)) ∧
        exec .cma s = .next (s.setA (BitVec.ofNat 16 (65535 - s.a.toNat))))

/-- TCA has the word '140407 and answers the state with A = (65536 - A) mod 65536; C and everything else are as they
were. CSA has the word '140320; it answers the state with C equal to bit 1 of A and that bit of A zero, the
other bits of A and everything else unchanged. -/
def Obligations.TcaAndCsa : Prop :=
  (encode .tca = 0o140407 ∧
      ∀ s : State, exec .tca s = .next (s.setA (BitVec.ofNat 16 ((65536 - s.a.toNat) % 65536)))) ∧
  (encode .csa = 0o140320 ∧ ∀ s : State,
      exec .csa s = .next ((s.setC (bit s.a 1)).setA ((0 : BitVec 1) ++ s.a.extractLsb' 0 15)))

/-- For a count field that is not 0 a shift moves 64 - NF places, 1 to 63. For count field 0 it moves 0 or 64 places
as the parameter says, or one of the two where it is undecided (the model's own value of assumption 8), and
where the parameter is refuse every shift is refused. -/
def Obligations.PlacesOfAShift : Prop :=
  (∀ (nf : BitVec 6) (s : State), nf ≠ 0 → shiftPlaces nf s = some (64 - nf.toNat)) ∧
    (∀ s : State,
      (s.config.shiftFieldZero = .noPlaces → shiftPlaces 0 s = some 0) ∧
      (s.config.shiftFieldZero = .sixtyFour → shiftPlaces 0 s = some 64) ∧
      (s.config.shiftFieldZero = .undecided → shiftPlaces 0 s = some 0 ∨ shiftPlaces 0 s = some 64) ∧
      (s.config.shiftFieldZero = .refuse →
        ∀ i ∈ [Instr.als 0, .ars 0, .alr 0, .arr 0, .lgl 0, .lgr 0, .lls 0, .lrs 0, .llr 0, .lrr 0, .lll 0, .lrl 0],
          exec i s = .refused .shiftCountZero))

/-- LGL and LGR by n places, up to 64, answer the state with A shifted n places with zeros entering and C the last
bit shifted out (0 when none was); B is unchanged. Every value of the count field for which the shift has a
number of places is covered; SC is free afterwards. Decisions D13, D14 and D33 of the spec. -/
def Obligations.LogicalShiftsOfA : Prop :=
  ∀ (nf : BitVec 6) (s : State) (n : Nat), shiftPlaces nf s = some n →
    (∃ k, exec (.lgl nf) s = .next
        (((((s.setDraws (s.draws + 1)).setA (s.a <<< n)).setB s.b).setC
          (decide (1 ≤ n ∧ n ≤ 16) && s.a.getLsbD (16 - n))).setSC k)) ∧
      (∃ k, exec (.lgr nf) s = .next
        (((((s.setDraws (s.draws + 1)).setA (s.a >>> n)).setB s.b).setC
          (decide (1 ≤ n) && s.a.getLsbD (n - 1))).setSC k))

/-- ALR and ARR by n places answer the state with A rotated n places left or right (16 places restore it) and C the
last bit rotated out, which is the new bit 16 or bit 1 of A, or 0 when n = 0; B is unchanged. Every value of the
count field for which the shift has a number of places is covered; SC is free afterwards. Decisions D13, D14 and
D33 of the spec. -/
def Obligations.RotatesOfA : Prop :=
  ∀ (nf : BitVec 6) (s : State) (n : Nat), shiftPlaces nf s = some n →
    (∃ k, exec (.alr nf) s = .next
        (((((s.setDraws (s.draws + 1)).setA (s.a.rotateLeft n)).setB s.b).setC
          (decide (1 ≤ n) && bit (s.a.rotateLeft n) 16)).setSC k)) ∧
      (∃ k, exec (.arr nf) s = .next
        (((((s.setDraws (s.draws + 1)).setA (s.a.rotateRight n)).setB s.b).setC
          (decide (1 ≤ n) && bit (s.a.rotateRight n) 1)).setSC k))

/-- ALS by n places answers the state with A shifted left and C set exactly if the value of A times 2^n does not fit
16 bits; ARS with A shifted right with copies of its sign and C the last bit shifted out (0 when n = 0); B is
unchanged. Every value of the count field for which the shift has a number of places is covered; SC is free
afterwards. Decisions D13, D14 and D33 of the spec. -/
def Obligations.ArithmeticShiftsOfA : Prop :=
  ∀ (nf : BitVec 6) (s : State) (n : Nat), shiftPlaces nf s = some n →
    (∃ k, exec (.als nf) s = .next
        (((((s.setDraws (s.draws + 1)).setA (s.a <<< n)).setB s.b).setC
          (decide (s.a.toInt * 2 ^ n < -32768 ∨ s.a.toInt * 2 ^ n > 32767))).setSC k)) ∧
      (∃ k, exec (.ars nf) s = .next
        (((((s.setDraws (s.draws + 1)).setA (s.a.sshiftRight n)).setB s.b).setC
          (decide (1 ≤ n) && bit (s.a.sshiftRight (n - 1)) 16)).setSC k))

/-- LLL and LRL by n places answer the state with the 32-bit number of A above B shifted n places with zeros
entering and C the last bit shifted out (0 when none was). Every value of the count field for which the shift
has a number of places is covered; SC is free afterwards. Decisions D13, D14 and D33 of the spec. -/
def Obligations.LongLogicalShifts : Prop :=
  ∀ (nf : BitVec 6) (s : State) (n : Nat), shiftPlaces nf s = some n →
    (∃ k, exec (.lll nf) s = .next
        (((((s.setDraws (s.draws + 1)).setA (((s.a ++ s.b : BitVec 32) <<< n).extractLsb' 16 16)).setB (((s.a ++ s.b : BitVec 32) <<< n).extractLsb' 0 16)).setC
          (decide (1 ≤ n ∧ n ≤ 32) && (s.a ++ s.b : BitVec 32).getLsbD (32 - n))).setSC k)) ∧
      (∃ k, exec (.lrl nf) s = .next
        (((((s.setDraws (s.draws + 1)).setA (((s.a ++ s.b : BitVec 32) >>> n).extractLsb' 16 16)).setB (((s.a ++ s.b : BitVec 32) >>> n).extractLsb' 0 16)).setC
          (decide (1 ≤ n) && (s.a ++ s.b : BitVec 32).getLsbD (n - 1))).setSC k))

/-- LLR and LRR by n places answer the state with the 32-bit number of A above B rotated n places (16 places
exchange A and B, 32 restore them) and C the last bit rotated out, or 0 when n = 0. Every value of the count
field for which the shift has a number of places is covered; SC is free afterwards. Decisions D13, D14 and D33
of the spec. -/
def Obligations.LongRotates : Prop :=
  ∀ (nf : BitVec 6) (s : State) (n : Nat), shiftPlaces nf s = some n →
    (∃ k, exec (.llr nf) s = .next
        (((((s.setDraws (s.draws + 1)).setA (((s.a ++ s.b : BitVec 32).rotateLeft n).extractLsb' 16 16)).setB (((s.a ++ s.b : BitVec 32).rotateLeft n).extractLsb' 0 16)).setC
          (decide (1 ≤ n) && ((s.a ++ s.b : BitVec 32).rotateLeft n).getLsbD 0)).setSC k)) ∧
      (∃ k, exec (.lrr nf) s = .next
        (((((s.setDraws (s.draws + 1)).setA (((s.a ++ s.b : BitVec 32).rotateRight n).extractLsb' 16 16)).setB (((s.a ++ s.b : BitVec 32).rotateRight n).extractLsb' 0 16)).setC
          (decide (1 ≤ n) && ((s.a ++ s.b : BitVec 32).rotateRight n).getLsbD 31)).setSC k))

/-- LLS by n places answers a state whose 31-bit number is shifted left n places and C set exactly if its value
times 2^n does not fit 31 bits; LRS one whose number is shifted right with copies of its sign and C the last bit
shifted out (0 when n = 0). Bit 1 of B keeps its value. Every value of the count field for which the shift has a
number of places is covered; SC is free afterwards. Decisions D13, D14 and D33 of the spec. -/
def Obligations.LongArithmeticShifts : Prop :=
  ∀ (nf : BitVec 6) (s : State) (n : Nat), shiftPlaces nf s = some n →
    (∃ (a b : Word) (k : BitVec 5),
      exec (.lls nf) s = .next (((((s.setDraws (s.draws + 1)).setA a).setB b).setC
          (decide ((dpNum s.a s.b).toInt * 2 ^ n < -(2 ^ 30) ∨ (dpNum s.a s.b).toInt * 2 ^ n > 2 ^ 30 - 1))).setSC k) ∧
        dpNum a b = dpNum s.a s.b <<< n ∧ bit b 1 = bit s.b 1) ∧
      (∃ (a b : Word) (k : BitVec 5),
        exec (.lrs nf) s = .next (((((s.setDraws (s.draws + 1)).setA a).setB b).setC
            (decide (1 ≤ n) && ((dpNum s.a s.b).sshiftRight (n - 1)).getLsbD 0)).setSC k) ∧
          dpNum a b = (dpNum s.a s.b).sshiftRight n ∧ bit b 1 = bit s.b 1)

/-- With the option, for a number that is not all zeros or all ones and a limit parameter that does not cut the loop
short, NRM answers a state in which bits 1 and 2 of A differ, the 31-bit value is the old one times 2^k, k is at
most 29, bit 1 of B is kept, SC is k (the parameter NRM_FN's default) or the complement of k that it names, C is
free (its default), a fixed bit or as it was, and nothing else changes but the number of draws. Without the
option it is refused. Decision D15; which complements there are is the model's form of the parameter (log entry
27, DESIGN CHOICE). -/
def Obligations.NormaliseShiftsUntilTheFirstTwoBitsDiffer : Prop :=
  (∀ s : State, s.config.hasHsa = true → unnormalisable s.a s.b = false →
      (s.config.nrmFn.limit = .refuse ∨ s.config.nrmFn.limit = .undecided ∨
        ∃ n, s.config.nrmFn.limit = .limit n ∧ 30 ≤ n) →
      ∃ (a b : Word) (k n : Nat) (sc : BitVec 5) (c : Bool),
        exec .nrm s = .next (((((s.setDraws n).setA a).setB b).setSC sc).setC c) ∧
          k ≤ 29 ∧ bit a 1 ≠ bit a 2 ∧ (dpNum a b).toInt = (dpNum s.a s.b).toInt * 2 ^ k ∧ bit b 1 = bit s.b 1 ∧
          (s.config.nrmFn.count = .places → sc = BitVec.ofNat 5 k) ∧
          (s.config.nrmFn.count = .onesComplement → sc = ~~~BitVec.ofNat 5 k) ∧
          (s.config.nrmFn.count = .twosComplement → sc = -BitVec.ofNat 5 k) ∧
          (s.config.nrmFn.carry = .draws → n = s.draws + 1) ∧
          (∀ v, s.config.nrmFn.carry = .fixed v → c = v ∧ n = s.draws) ∧
          (s.config.nrmFn.carry = .kept → c = s.c ∧ n = s.draws)) ∧
    (∀ s : State, s.config.hasHsa = false → exec .nrm s = .refused (.optionAbsent .highSpeedArithmetic))

/-- With the option, for a number of all zeros or all ones: where the parameter is refuse (its default) NRM is
refused; where it is undecided (the model's own value of assumption 11) or a limit, NRM answers a state in which
only A, B, SC, C and the number of draws differ, bit 1 of B is kept and the 31-bit number is the old one shifted
left k places. For zero k is the limit, and A = 0 and bits 2 to 16 of B are 0; for all ones k is the lesser of
the limit and 30, after which bits 1 and 2 of A differ. SC is k modulo 32 or the complement of it that NRM_FN
names, C is free, a fixed bit or as it was. The limit under undecided is the free constant of assumption 11;
which complements and which values for C there are is the model's form of the parameter (log entry 27, DESIGN
CHOICE): the spec leaves them to NRM_FN. -/
def Obligations.NormaliseOfAUniformNumber : Prop :=
  ∀ s : State, s.config.hasHsa = true → unnormalisable s.a s.b = true →
    (s.config.nrmFn.limit = .refuse → exec .nrm s = .refused .nrmOperandUndecided) ∧
    (s.config.nrmFn.limit ≠ .refuse →
      ∃ (a b : Word) (k n lim : Nat) (sc : BitVec 5) (c : Bool),
        exec .nrm s = .next (((((s.setDraws n).setA a).setB b).setSC sc).setC c) ∧
          (∀ given, s.config.nrmFn.limit = .limit given → lim = given) ∧
          (s.config.nrmFn.limit = .undecided → lim = Config.nrmLimit) ∧
          k = (if dpNum s.a s.b = 0 then lim else min lim 30) ∧
          dpNum a b = dpNum s.a s.b <<< k ∧ bit b 1 = bit s.b 1 ∧
          (dpNum s.a s.b = 0 → a = 0 ∧ b = s.b &&& 0x8000) ∧
          (dpNum s.a s.b ≠ 0 → 30 ≤ lim → bit a 1 ≠ bit a 2) ∧
          (s.config.nrmFn.count = .places → sc = BitVec.ofNat 5 k) ∧
          (s.config.nrmFn.count = .onesComplement → sc = ~~~BitVec.ofNat 5 k) ∧
          (s.config.nrmFn.count = .twosComplement → sc = -BitVec.ofNat 5 k) ∧
          (s.config.nrmFn.carry = .draws → n = s.draws + 1) ∧
          (∀ v, s.config.nrmFn.carry = .fixed v → c = v ∧ n = s.draws) ∧
          (s.config.nrmFn.carry = .kept → c = s.c ∧ n = s.draws))

/-- JMP has op code '01; whenever its effective address can be formed it answers the state after the reads of its
chain with P the effective address, nothing else changed. -/
def Obligations.JmpGoesToTheEffectiveAddress : Prop :=
  ∀ (m : MemRef) (s : State) (r : Located), locateMem m s = .next r →
    fieldOp (encode (.jmp m)) = 0o01 ∧ exec (.jmp m) s = .next ((afterReads r.path s).setP r.ea)

/-- In installed memory and outside restricted mode, JST answers a state in which the word at EA has bits 3 to 16
(bits 2 to 16 when PMI = 1) of P and its own other bits, P is EA + 1 modulo 2^AW, and no byte outside that word
and no other register has changed. In installed memory and outside restricted mode IRS answers the state after
the reads with the word at EA one more modulo 65536, P one further modulo 2^AW if that is 0, and nothing else
changed: A and C are as they were and so is every byte outside that word. -/
def Obligations.JstAndIrs : Prop :=
  (∀ (m : MemRef) (s : State) (r : Located) (w : Word), OperandAt m s r → s.rmBit = false →
      w = (if s.pmiBit then ((s.mem.readWord r.ea.toNat) &&& 0x8000) ||| (s.p &&& 0x7FFF) else ((s.mem.readWord r.ea.toNat) &&& 0xC000) ||| (s.p &&& 0x3FFF)) →
      exec (.jst m) s = .next (((afterReads (r.path ++ [r.ea]) s).setMem (s.mem.writeWord r.ea.toNat w)).setP
          (BitVec.ofNat 16 ((r.ea.toNat + 1) % 2 ^ s.aw))) ∧
        SameBytesOutside r.ea.toNat s.mem (s.mem.writeWord r.ea.toNat w)) ∧
  (∀ (m : MemRef) (s : State) (r : Located) (v : Word), OperandAt m s r → s.rmBit = false →
      v = BitVec.ofNat 16 (((s.mem.readWord r.ea.toNat).toNat + 1) % 65536) →
      exec (.irs m) s = .next (((afterReads (r.path ++ [r.ea]) s).setMem (s.mem.writeWord r.ea.toNat v)).setP
          (if v = 0 then BitVec.ofNat 16 ((s.p.toNat + 1) % 2 ^ s.aw) else s.p)) ∧
        SameBytesOutside r.ea.toNat s.mem (s.mem.writeWord r.ea.toNat v))

/-- If JST stores into a link word whose indirect bit (and, when PMI = 0, index bit) is 0, then an indirect JMP
without indexing whose first address is the link word answers a state whose P is the P that JST saved. -/
def Obligations.CallThenReturn : Prop :=
  ∀ (m x : MemRef) (s t : State) (r : Located), OperandAt m s r → s.p.toNat < 2 ^ s.aw →
    bit (s.mem.readWord r.ea.toNat) 1 = false → (s.pmiBit = false → bit (s.mem.readWord r.ea.toNat) 2 = false) →
    exec (.jst m) s = .next t → x.indirect = true → x.indexed = false → firstAddress x.sector x.disp t = r.ea →
    ∃ u : State, exec (.jmp x) t = .next u ∧ u.p = s.p

/-- Where the operand is installed memory CAS answers the state after the reads with P unchanged if A is greater
than the operand as a signed number, one further if equal and two further if less, modulo 2^AW; nothing else
changes. Decision D16 of the spec. -/
def Obligations.CasSkipsByComparison : Prop :=
  ∀ (m : MemRef) (s : State) (r : Located) (k : Nat), OperandAt m s r →
    k = (if s.a.toInt > (s.mem.readWord r.ea.toNat).toInt then 0 else if s.a.toInt = (s.mem.readWord r.ea.toNat).toInt then 1 else 2) →
    exec (.cas m) s = .next (if k = 0 then (afterReads (r.path ++ [r.ea]) s) else (afterReads (r.path ++ [r.ea]) s).setP (BitVec.ofNat 16 ((s.p.toNat + k) % 2 ^ s.aw)))

/-- SKP always, SPL and SMI on bit 1 of A, SZE and SNZ on A, SLZ and SLN on bit 16 of A, SRC and SSC on C: each
answers the same state with P one further modulo 2^AW if its condition holds, and the same state otherwise.
Their words are the spec's. -/
def Obligations.SkipsOnAAndC : Prop :=
  encode .skp = 0o100000 ∧ encode .spl = 0o100400 ∧ encode .smi = 0o101400 ∧ encode .sze = 0o100040 ∧
    encode .snz = 0o101040 ∧ encode .slz = 0o100100 ∧ encode .sln = 0o101100 ∧ encode .src = 0o100001 ∧
    encode .ssc = 0o101001 ∧
    ∀ s q : State, q = s.setP (BitVec.ofNat 16 ((s.p.toNat + 1) % 2 ^ s.aw)) →
      exec .skp s = .next q ∧ exec .spl s = .next (if bit s.a 1 = false then q else s) ∧
      exec .smi s = .next (if bit s.a 1 = true then q else s) ∧ exec .sze s = .next (if s.a = 0 then q else s) ∧
      exec .snz s = .next (if s.a ≠ 0 then q else s) ∧ exec .slz s = .next (if bit s.a 16 = false then q else s) ∧
      exec .sln s = .next (if bit s.a 16 = true then q else s) ∧ exec .src s = .next (if s.c = false then q else s) ∧
      exec .ssc s = .next (if s.c = true then q else s)

/-- SR1 to SR4 skip if their switch is off, SS1 to SS4 if it is on, SSR if all four are off, SSS if any is on: each
answers the state after one reading of the switches, with P one further modulo 2^AW if the condition holds. A
reading changes nothing but the number of draws, and where the launch fixes the switches it is that setting and
changes nothing. -/
def Obligations.SkipsOnTheSenseSwitches : Prop :=
  ∀ (s u q : State) (w : SenseSwitches), askSwitches s = (w, u) →
    q = u.setP (BitVec.ofNat 16 ((s.p.toNat + 1) % 2 ^ s.aw)) →
    (∃ n, u = s.setDraws n) ∧ (s.switchesFixed = true → w = s.switches ∧ u = s) ∧
      exec .sr1 s = .next (if w.s1 = false then q else u) ∧ exec .sr2 s = .next (if w.s2 = false then q else u) ∧
      exec .sr3 s = .next (if w.s3 = false then q else u) ∧ exec .sr4 s = .next (if w.s4 = false then q else u) ∧
      exec .ss1 s = .next (if w.s1 = true then q else u) ∧ exec .ss2 s = .next (if w.s2 = true then q else u) ∧
      exec .ss3 s = .next (if w.s3 = true then q else u) ∧ exec .ss4 s = .next (if w.s4 = true then q else u) ∧
      exec .ssr s = .next (if w.s1 = false ∧ w.s2 = false ∧ w.s3 = false ∧ w.s4 = false then q else u) ∧
      exec .sss s = .next (if w.s1 = true ∨ w.s2 = true ∨ w.s3 = true ∨ w.s4 = true then q else u)

/-- With the parity option SPN skips if MPE is 0 and SPS if it is 1, changing P alone, and RMP answers the state
with MPE 0; without it all three are refused as optionAbsent. With the extended addressing option EXA answers
the state with PMI 1, and DXA, where P is below 2^14, with PMI 0; nothing else changes. DXA with P at 2^14 or
more is refused, and without the option both are. Decision D4 of the spec. -/
def Obligations.ParityAndAddressingModeInstructions : Prop :=
  (∀ s q : State, q = s.setP (BitVec.ofNat 16 ((s.p.toNat + 1) % 2 ^ s.aw)) →
      (s.config.hasMemoryParity = true →
        exec .spn s = .next (if s.mpe = false then q else s) ∧ exec .sps s = .next (if s.mpe = true then q else s) ∧
          exec .rmp s = .next (s.setMPE false)) ∧
      (s.config.hasMemoryParity = false →
        ∀ i ∈ [Instr.spn, .sps, .rmp], exec i s = .refused (.optionAbsent .memoryParity))) ∧
  (∀ s : State,
      (s.config.hasExtendedAddressing = true →
        exec .exa s = .next (s.setPMI true) ∧
          (s.p.toNat < 2 ^ 14 → exec .dxa s = .next (s.setPMI false)) ∧
          (2 ^ 14 ≤ s.p.toNat → exec .dxa s = .refused .dxaInUpperMemory)) ∧
      (s.config.hasExtendedAddressing = false →
        exec .exa s = .refused (.optionAbsent .extendedAddressing) ∧
          exec .dxa s = .refused (.optionAbsent .extendedAddressing)))

/-- HLT ('000000) answers the state with RUN 0, RCB ('140200) with C 0, SCB ('140600) with C 1; everything else is
as it was. ENB answers the state with PI and ENB_PENDING 1, INH with both 0; nothing else changes. Decision D24
of the spec. -/
def Obligations.HaltCarryAndInterruptEnable : Prop :=
  (encode .hlt = 0o000000 ∧ encode .rcb = 0o140200 ∧ encode .scb = 0o140600 ∧ ∀ s : State,
      exec .hlt s = .next (s.setRun false) ∧ exec .rcb s = .next (s.setC false) ∧ exec .scb s = .next (s.setC true)) ∧
  (∀ s : State, exec .enb s = .next ((s.setPI true).setEnbPending true) ∧
      exec .inh s = .next ((s.setPI false).setEnbPending false))

/-- INK has the word '000043; it answers the state with bit 1 of A equal to C, bit 2 to DP, bit 3 to PMI, bits 4 to
11 zero and bits 12 to 16 SC; DP and PMI read 0 without their options; no indicator changes. SGL ('000005)
answers the state with DP 0 and DBL ('000007) with DP 1, nothing else changed, with the arithmetic option;
without it both are refused. -/
def Obligations.InkSglAndDbl : Prop :=
  (encode .ink = 0o000043 ∧ ∀ s : State, ∃ a : Word, exec .ink s = .next (s.setA a) ∧
      bit a 1 = s.c ∧ bit a 2 = (s.config.hasHsa && s.dp) ∧ bit a 3 = (s.config.hasExtendedAddressing && s.pmi) ∧
        a.extractLsb' 5 8 = 0 ∧ a.extractLsb' 0 5 = s.sc) ∧
  (encode .sgl = 0o000005 ∧ encode .dbl = 0o000007 ∧ ∀ s : State,
      (s.config.hasHsa = true → exec .sgl s = .next (s.setDP false) ∧ exec .dbl s = .next (s.setDP true)) ∧
      (s.config.hasHsa = false → exec .sgl s = .refused (.optionAbsent .highSpeedArithmetic) ∧
        exec .dbl s = .refused (.optionAbsent .highSpeedArithmetic)) ∧
      (∀ m : MemRef, s.config.hasHsa = true →
        decode (s.setDP false).dpBit (encode (.lda m)) = .ok (.lda m) ∧
        decode (s.setDP false).dpBit (encode (.sta m)) = .ok (.sta m) ∧
        decode (s.setDP false).dpBit (encode (.add m)) = .ok (.add m) ∧
        decode (s.setDP false).dpBit (encode (.sub m)) = .ok (.sub m) ∧
        decode (s.setDP true).dpBit (encode (.lda m)) = .ok (.dld m) ∧
        decode (s.setDP true).dpBit (encode (.sta m)) = .ok (.dst m) ∧
        decode (s.setDP true).dpBit (encode (.add m)) = .ok (.dad m) ∧
        decode (s.setDP true).dpBit (encode (.sub m)) = .ok (.dsb m)))

/-- OTK answers the state with C, DP and PMI equal to bits 1, 2 and 3 of A and SC to bits 12 to 16, nothing else
changed, if bit 2 is 0 or the arithmetic option present, bit 3 is 0 or the extended addressing option present,
and PMI is not cleared while P is 2^14 or more. Otherwise it is refused by name. Decision D23 of the spec. -/
def Obligations.OtkScattersTheKeys : Prop :=
  ∀ s : State,
    (s.config.hasHsa = false → bit s.a 2 = true → exec .otk s = .refused (.optionAbsent .highSpeedArithmetic)) ∧
    ((s.config.hasHsa = true ∨ bit s.a 2 = false) → s.config.hasExtendedAddressing = false → bit s.a 3 = true →
      exec .otk s = .refused (.optionAbsent .extendedAddressing)) ∧
    ((s.config.hasHsa = true ∨ bit s.a 2 = false) → s.pmiBit = true → bit s.a 3 = false → 2 ^ 14 ≤ s.p.toNat →
      exec .otk s = .refused .dxaInUpperMemory) ∧
    ((s.config.hasHsa = true ∨ bit s.a 2 = false) → (s.config.hasExtendedAddressing = true ∨ bit s.a 3 = false) →
      (s.pmiBit = false ∨ bit s.a 3 = true ∨ s.p.toNat < 2 ^ 14) →
      exec .otk s = .next ((((s.setC (bit s.a 1)).setDP (bit s.a 2)).setPMI (bit s.a 3)).setSC
        (s.a.extractLsb' 0 5)))

/-- With the lockout option ERM answers the state with RM 1, nothing else changed, and a step of a running machine
with RM 1 is refused; without the option ERM is refused. Decision D26 of the spec. -/
def Obligations.RestrictedModeStopsEveryStep : Prop :=
  ∀ s : State,
    (s.config.hasMemoryLockout = true → exec .erm s = .next (s.setRM true) ∧
      (s.run = true → s.rm = true → step s = .refused .restrictedModeUnmodelled)) ∧
    (s.config.hasMemoryLockout = false → exec .erm s = .refused (.optionAbsent .memoryLockout))

/-- OCP answers the state with its call at the end of the event history; SMK with MASK (device '20) or MASK2 (device
'24) equal to A and its call recorded; nothing else changes. Decisions D23 and D25 of the spec. SKS answers the
state after its question with the call and its answer at the end of the history and P one further modulo 2^AW if
the answer is true; a device that nothing answers never senses true; the question changes nothing but the
answers used up. -/
def Obligations.OcpSmkAndSks : Prop :=
  (∀ (code : IoCode) (s : State),
      exec (.ocp code) s = .next (s.setEvents (s.events ++ [.ocp code.f code.d])) ∧
        exec (.smk .mask) s = .next ((s.setMask s.a).setEvents (s.events ++ [.smk 0o20 s.a])) ∧
        exec (.smk .mask2) s = .next ((s.setMask2 s.a).setEvents (s.events ++ [.smk 0o24 s.a]))) ∧
  (∀ (code : IoCode) (s u : State) (sense : Bool), askSense code.f code.d s = (sense, u) →
      (∃ k n, u = (s.setScript k).setDraws n) ∧ (unanswered code.d s = true → sense = false ∧ u = s) ∧
        exec (.sks code) s = .next ((u.setEvents (s.events ++ [.sks code.f code.d sense])).setP
          (if sense then BitVec.ofNat 16 ((s.p.toNat + 1) % 2 ^ s.aw) else s.p)))

/-- INA answers the state after its question with the call and its answer recorded. If the device is ready A is the
data with (F7) = 1, the data or-ed with A with (F7) = 0, and P is one further modulo 2^AW; if not, A and P are
as they were. (F7) is bit 7 of the instruction word. A device that nothing answers is never ready, and one free
word is drawn. That an INA that is not ready is recorded with the data of its answer, a free word where nothing
answers, is the model's choice (log entry 18, DESIGN CHOICE): the spec calls that data meaningful only when
ready. OTA answers the state after its question with the call, the word of A and the answer recorded, and P one
further modulo 2^AW if the device is ready; A is unchanged, and a device that nothing answers is never ready. -/
def Obligations.InaAndOta : Prop :=
  (∀ (code : IoCode) (s u : State) (ready : Bool) (data : Word),
      askInput code.f code.d s = ((ready, data), u) →
      (∃ k n, u = (s.setScript k).setDraws n) ∧
        (unanswered code.d s = true → ready = false ∧ u = s.setDraws (s.draws + 1)) ∧
        exec (.ina code) s = .next (if ready then
            ((u.setEvents (s.events ++ [.ina code.f code.d true data])).setA
              (if bit (encode (.ina code)) 7 then data else s.a ||| data)).setP
                (BitVec.ofNat 16 ((s.p.toNat + 1) % 2 ^ s.aw))
          else u.setEvents (s.events ++ [.ina code.f code.d false data]))) ∧
  (∀ (code : IoCode) (s u : State) (ready : Bool), askOutput code.f code.d s.a s = (ready, u) →
      (∃ k n, u = (s.setScript k).setDraws n) ∧ (unanswered code.d s = true → ready = false ∧ u = s) ∧
        exec (.ota code) s = .next ((u.setEvents (s.events ++ [.ota code.f code.d s.a ready])).setP
          (if ready then BitVec.ofNat 16 ((s.p.toNat + 1) % 2 ^ s.aw) else s.p)))

/-- An instruction that answers a next state leaves PI and ENB_PENDING unless it is ENB or INH, DP unless SGL, DBL
or OTK, PMI unless EXA, DXA or OTK, RM unless ERM, MASK and MASK2 unless SMK, and RUN unless HLT. -/
def Obligations.IndicatorsHaveTheirWritersOnly : Prop :=
  ∀ (i : Instr) (s t : State), exec i s = .next t →
    (i ≠ .enb → i ≠ .inh → t.pi = s.pi ∧ t.enbPending = s.enbPending) ∧
      (i ≠ .sgl → i ≠ .dbl → i ≠ .otk → t.dp = s.dp) ∧
      (i ≠ .exa → i ≠ .dxa → i ≠ .otk → t.pmi = s.pmi) ∧ (i ≠ .erm → t.rm = s.rm) ∧
      ((∀ g, i ≠ .smk g) → t.mask = s.mask ∧ t.mask2 = s.mask2) ∧ (i ≠ .hlt → t.run = s.run)

/-- An instruction that answers a next state and is none of the seven leaves memory as it was. STA, STX, IMA, IRS
and JST leave every byte outside the word at their effective address, DST every byte outside the two words of
its operand, LDX every byte outside word 0, which is X. -/
def Obligations.OnlyStoresChangeMemory : Prop :=
  ∀ (i : Instr) (s t : State), exec i s = .next t →
    ((∀ m, i ≠ .sta m ∧ i ≠ .dst m ∧ i ≠ .ima m ∧ i ≠ .irs m ∧ i ≠ .jst m) → (∀ x, i ≠ .stx x ∧ i ≠ .ldx x) →
      t.mem = s.mem) ∧
    (∀ (m : MemRef) (r : Located), locateMem m s = .next r →
      (i = .sta m ∨ i = .ima m ∨ i = .irs m ∨ i = .jst m → SameBytesOutside r.ea.toNat s.mem t.mem) ∧
      (i = .dst m → ∀ k, k ≠ 2 * r.ea.toNat → k ≠ 2 * r.ea.toNat + 1 →
        k ≠ 2 * (secondAddress r.ea s).toNat → k ≠ 2 * (secondAddress r.ea s).toNat + 1 →
        t.mem.readByte k = s.mem.readByte k)) ∧
    (∀ (x : XRef) (r : Located), locateX x s = .next r →
      (i = .stx x → SameBytesOutside r.ea.toNat s.mem t.mem) ∧ (i = .ldx x → SameBytesOutside 0 s.mem t.mem))

/-- An instruction that answers a next state leaves B unless it is IAB, DLD, DAD, DSB, MPY, DIV, a long shift or
NRM; SC unless it is a shift, NRM or OTK; C unless it is one of ADD, DAD, SUB, DSB, ACA, AOA, DIV, CSA, RCB,
SCB, OTK, a shift, NRM, or MPY of '100000; it keeps the event history and adds at most one call at its end. -/
def Obligations.RegistersHaveTheirWritersOnly : Prop :=
  ∀ (i : Instr) (s t : State), exec i s = .next t →
    ((∀ m, i ≠ .dld m ∧ i ≠ .dad m ∧ i ≠ .dsb m ∧ i ≠ .mpy m ∧ i ≠ .div m) →
      (∀ k, i ≠ .lls k ∧ i ≠ .lrs k ∧ i ≠ .llr k ∧ i ≠ .lrr k ∧ i ≠ .lll k ∧ i ≠ .lrl k) →
      i ≠ .iab → i ≠ .nrm → t.b = s.b) ∧
    ((∀ k, i ≠ .als k ∧ i ≠ .ars k ∧ i ≠ .alr k ∧ i ≠ .arr k ∧ i ≠ .lgl k ∧ i ≠ .lgr k ∧ i ≠ .lls k ∧ i ≠ .lrs k ∧
        i ≠ .llr k ∧ i ≠ .lrr k ∧ i ≠ .lll k ∧ i ≠ .lrl k) → i ≠ .nrm →
      (i ≠ .otk → t.sc = s.sc) ∧
      ((∀ m, i ≠ .add m ∧ i ≠ .dad m ∧ i ≠ .sub m ∧ i ≠ .dsb m ∧ i ≠ .div m ∧ (i = .mpy m → s.a ≠ 0x8000)) →
        i ≠ .aca → i ≠ .aoa → i ≠ .csa → i ≠ .rcb → i ≠ .scb → i ≠ .otk → t.c = s.c)) ∧
    (∃ e : List IoEvent, t.events = s.events ++ e ∧ e.length ≤ 1)

/-- An instruction that answers a next state leaves P, already at the next instruction, unless it is JMP, JST, CAS,
IRS, SKS, INA, OTA or a skip; a skip, SKS, INA, OTA or IRS leaves it or moves it one further modulo 2^AW. -/
def Obligations.OnlyTransfersAndSkipsChangeP : Prop :=
  ∀ (i : Instr) (s t : State), exec i s = .next t →
    (∀ m, i ≠ .jmp m ∧ i ≠ .jst m ∧ i ≠ .cas m) →
    t.p = s.p ∨
      (t.p = BitVec.ofNat 16 ((s.p.toNat + 1) % 2 ^ s.aw) ∧
        ((∃ m, i = .irs m) ∨ (∃ code, i = .sks code ∨ i = .ina code ∨ i = .ota code) ∨
          i ∈ [Instr.skp, .spl, .smi, .sze, .snz, .slz, .sln, .src, .ssc, .sr1, .sr2, .sr3, .sr4, .ssr, .ss1, .ss2,
            .ss3, .ss4, .sss, .spn, .sps]))
end

