-- ==== Sys2Proof/Laws/Memory.lean ====
section
/-! SUPPORT. The memory's laws: a read after a write, the bytes a write leaves alone, the canonical form and the
bounds that every write keeps. -/

namespace Sys2Proof.Machine

/-! ### Bytes -/

theorem Memory.readByte_insertCell (m : Memory) (n k : Nat) (v : Byte) :
    (m.insertCell n v).readByte k = if k = n then v else m.readByte k := by
  induction m with
  | nil => simp [Memory.insertCell, Memory.readByte]
  | cons c m ih =>
    obtain ⟨j, w⟩ := c
    by_cases h1 : n < j
    · rw [Memory.insertCell, if_pos h1, Memory.readByte]
    · by_cases h2 : n = j
      · subst h2
        rw [Memory.insertCell, if_neg h1, if_pos rfl]
        simp only [Memory.readByte]; split_ifs <;> rfl
      · rw [Memory.insertCell, if_neg h1, if_neg h2]
        simp only [Memory.readByte, ih]; split_ifs <;> first | rfl | omega

theorem Memory.readByte_filter (m : Memory) (n k : Nat) :
    Memory.readByte (m.filter fun cell => cell.1 != n) k = if k = n then unlistedByte else m.readByte k := by
  induction m with
  | nil => simp [Memory.readByte]
  | cons c m ih =>
    obtain ⟨j, w⟩ := c
    by_cases hj : j = n
    · subst hj
      rw [List.filter_cons_of_neg (by simp), ih]
      simp only [Memory.readByte]; split_ifs <;> rfl
    · rw [List.filter_cons_of_pos (by simpa using hj)]
      simp only [Memory.readByte, ih]; split_ifs <;> first | rfl | omega

/-- Reading a byte after a write of a byte. -/
theorem Memory.readByte_writeByte (m : Memory) (n k : Nat) (v : Byte) :
    (m.writeByte n v).readByte k = if k = n then v else m.readByte k := by
  unfold Memory.writeByte
  split_ifs with hv hk
  · rw [Memory.readByte_filter, if_pos hk, hv]
  · rw [Memory.readByte_filter, if_neg hk]
  all_goals simp_all [Memory.readByte_insertCell]

/-! ### Words -/

/-- Reading a word after a write of a word (R55, R56). -/
theorem Memory.readWord_writeWord (m : Memory) (a k : Nat) (v : Word) :
    (m.writeWord a v).readWord k = if k = a then v else m.readWord k := by
  unfold Memory.readWord Memory.writeWord
  simp only [Memory.readByte_writeByte]
  by_cases h : k = a
  · subst h
    rw [if_neg (by omega), if_pos rfl, if_pos rfl, if_pos rfl]
    ext i hi
    simp only [BitVec.getElem_append, BitVec.getElem_extractLsb']
    split_ifs with h8 <;> (rw [BitVec.getLsbD_eq_getElem (by omega)]; congr 1; omega)
  · rw [if_neg (by omega), if_neg (by omega), if_neg (by omega), if_neg (by omega), if_neg h]

@[simp] theorem Memory.readWord_writeWord_same (m : Memory) (a : Nat) (v : Word) :
    (m.writeWord a v).readWord a = v := by simp [Memory.readWord_writeWord]

theorem Memory.readWord_writeWord_other (m : Memory) {a k : Nat} (v : Word) (h : k ≠ a) :
    (m.writeWord a v).readWord k = m.readWord k := by simp [Memory.readWord_writeWord, h]

@[simp] theorem Memory.readWord_nil (a : Nat) : Memory.readWord [] a = 0 := by
  simp only [Memory.readWord, Memory.readByte]; rfl

/-! ### The canonical form -/

theorem Memory.mem_insertCell {m : Memory} {n : Nat} {v : Byte} {c : Host.Cell}
    (h : c ∈ m.insertCell n v) : c = (n, v) ∨ c ∈ m := by
  induction m with
  | nil => simpa [Memory.insertCell] using h
  | cons d m ih =>
    obtain ⟨j, w⟩ := d
    simp only [Memory.insertCell] at h
    split_ifs at h with h1 h2
    · simpa using h
    · rcases List.mem_cons.1 h with h | h
      · exact .inl h
      · exact .inr (List.mem_cons_of_mem _ h)
    · rcases List.mem_cons.1 h with h | h
      · exact .inr (h ▸ List.mem_cons_self)
      · exact (ih h).imp_right (List.mem_cons_of_mem _)

theorem Memory.pairwise_insertCell {m : Memory} (n : Nat) (v : Byte)
    (h : m.Pairwise fun c d => c.1 < d.1) : (m.insertCell n v).Pairwise fun c d => c.1 < d.1 := by
  induction m with
  | nil => simp [Memory.insertCell]
  | cons d m ih =>
    obtain ⟨j, w⟩ := d
    obtain ⟨hd, hm⟩ := List.pairwise_cons.1 h
    simp only [Memory.insertCell]
    split_ifs with h1 h2
    · refine List.pairwise_cons.2 ⟨fun c hc => ?_, h⟩
      rcases List.mem_cons.1 hc with rfl | hc
      · exact h1
      · exact lt_trans h1 (hd c hc)
    · subst h2; exact List.pairwise_cons.2 ⟨hd, hm⟩
    · refine List.pairwise_cons.2 ⟨fun c hc => ?_, ih hm⟩
      rcases Memory.mem_insertCell hc with rfl | hc
      · show j < n; omega
      · exact hd c hc

/-- A write of a byte keeps the canonical form. -/
theorem Memory.wf_writeByte {m : Memory} (n : Nat) (v : Byte) (h : m.wf) : (m.writeByte n v).wf := by
  unfold Memory.writeByte
  split_ifs with hv
  · exact ⟨h.1.filter _, fun c hc => h.2 c (List.mem_filter.1 hc).1⟩
  · refine ⟨Memory.pairwise_insertCell n v h.1, fun c hc => ?_⟩
    rcases Memory.mem_insertCell hc with rfl | hc
    · exact hv
    · exact h.2 c hc

/-- A write of a word keeps the canonical form. -/
theorem Memory.wf_writeWord {m : Memory} (a : Nat) (v : Word) (h : m.wf) : (m.writeWord a v).wf :=
  Memory.wf_writeByte _ _ (Memory.wf_writeByte _ _ h)

theorem Memory.within_writeByte {m : Memory} {words n : Nat} (v : Byte) (h : m.within words) (hn : n < 2 * words) :
    (m.writeByte n v).within words := by
  unfold Memory.writeByte
  split_ifs with hv
  · exact fun c hc => h c (List.mem_filter.1 hc).1
  · intro c hc
    rcases Memory.mem_insertCell hc with rfl | hc
    · exact hn
    · exact h c hc

/-- A write of an installed word lists no cell beyond the installed words. -/
theorem Memory.within_writeWord {m : Memory} {words a : Nat} (v : Word) (h : m.within words) (ha : a < words) :
    (m.writeWord a v).within words :=
  Memory.within_writeByte _ (Memory.within_writeByte _ h (by omega)) (by omega)

end Sys2Proof.Machine
end

