-- ==== Sys2Proof/Laws/State.lean ====
section
/-! SUPPORT. One lemma per field and update of State, each by definition: later proofs never unfold an update. -/

namespace Sys2Proof.Machine

@[simp] theorem State.setA_a (s : State) (v : Word) : (s.setA v).a = v := rfl
@[simp] theorem State.setA_b (s : State) (v : Word) : (s.setA v).b = s.b := rfl
@[simp] theorem State.setA_p (s : State) (v : Word) : (s.setA v).p = s.p := rfl
@[simp] theorem State.setA_c (s : State) (v : Word) : (s.setA v).c = s.c := rfl
@[simp] theorem State.setA_sc (s : State) (v : Word) : (s.setA v).sc = s.sc := rfl
@[simp] theorem State.setA_pi (s : State) (v : Word) : (s.setA v).pi = s.pi := rfl
@[simp] theorem State.setA_dp (s : State) (v : Word) : (s.setA v).dp = s.dp := rfl
@[simp] theorem State.setA_pmi (s : State) (v : Word) : (s.setA v).pmi = s.pmi := rfl
@[simp] theorem State.setA_rm (s : State) (v : Word) : (s.setA v).rm = s.rm := rfl
@[simp] theorem State.setA_mpe (s : State) (v : Word) : (s.setA v).mpe = s.mpe := rfl
@[simp] theorem State.setA_mask (s : State) (v : Word) : (s.setA v).mask = s.mask := rfl
@[simp] theorem State.setA_mask2 (s : State) (v : Word) : (s.setA v).mask2 = s.mask2 := rfl
@[simp] theorem State.setA_enbPending (s : State) (v : Word) : (s.setA v).enbPending = s.enbPending := rfl
@[simp] theorem State.setA_run (s : State) (v : Word) : (s.setA v).run = s.run := rfl
@[simp] theorem State.setA_switches (s : State) (v : Word) : (s.setA v).switches = s.switches := rfl
@[simp] theorem State.setA_switchesFixed (s : State) (v : Word) : (s.setA v).switchesFixed = s.switchesFixed := rfl
@[simp] theorem State.setA_mem (s : State) (v : Word) : (s.setA v).mem = s.mem := rfl
@[simp] theorem State.setA_events (s : State) (v : Word) : (s.setA v).events = s.events := rfl
@[simp] theorem State.setA_script (s : State) (v : Word) : (s.setA v).script = s.script := rfl
@[simp] theorem State.setA_draws (s : State) (v : Word) : (s.setA v).draws = s.draws := rfl
@[simp] theorem State.setA_config (s : State) (v : Word) : (s.setA v).config = s.config := rfl

@[simp] theorem State.setB_a (s : State) (v : Word) : (s.setB v).a = s.a := rfl
@[simp] theorem State.setB_b (s : State) (v : Word) : (s.setB v).b = v := rfl
@[simp] theorem State.setB_p (s : State) (v : Word) : (s.setB v).p = s.p := rfl
@[simp] theorem State.setB_c (s : State) (v : Word) : (s.setB v).c = s.c := rfl
@[simp] theorem State.setB_sc (s : State) (v : Word) : (s.setB v).sc = s.sc := rfl
@[simp] theorem State.setB_pi (s : State) (v : Word) : (s.setB v).pi = s.pi := rfl
@[simp] theorem State.setB_dp (s : State) (v : Word) : (s.setB v).dp = s.dp := rfl
@[simp] theorem State.setB_pmi (s : State) (v : Word) : (s.setB v).pmi = s.pmi := rfl
@[simp] theorem State.setB_rm (s : State) (v : Word) : (s.setB v).rm = s.rm := rfl
@[simp] theorem State.setB_mpe (s : State) (v : Word) : (s.setB v).mpe = s.mpe := rfl
@[simp] theorem State.setB_mask (s : State) (v : Word) : (s.setB v).mask = s.mask := rfl
@[simp] theorem State.setB_mask2 (s : State) (v : Word) : (s.setB v).mask2 = s.mask2 := rfl
@[simp] theorem State.setB_enbPending (s : State) (v : Word) : (s.setB v).enbPending = s.enbPending := rfl
@[simp] theorem State.setB_run (s : State) (v : Word) : (s.setB v).run = s.run := rfl
@[simp] theorem State.setB_switches (s : State) (v : Word) : (s.setB v).switches = s.switches := rfl
@[simp] theorem State.setB_switchesFixed (s : State) (v : Word) : (s.setB v).switchesFixed = s.switchesFixed := rfl
@[simp] theorem State.setB_mem (s : State) (v : Word) : (s.setB v).mem = s.mem := rfl
@[simp] theorem State.setB_events (s : State) (v : Word) : (s.setB v).events = s.events := rfl
@[simp] theorem State.setB_script (s : State) (v : Word) : (s.setB v).script = s.script := rfl
@[simp] theorem State.setB_draws (s : State) (v : Word) : (s.setB v).draws = s.draws := rfl
@[simp] theorem State.setB_config (s : State) (v : Word) : (s.setB v).config = s.config := rfl

@[simp] theorem State.setP_a (s : State) (v : Word) : (s.setP v).a = s.a := rfl
@[simp] theorem State.setP_b (s : State) (v : Word) : (s.setP v).b = s.b := rfl
@[simp] theorem State.setP_p (s : State) (v : Word) : (s.setP v).p = v := rfl
@[simp] theorem State.setP_c (s : State) (v : Word) : (s.setP v).c = s.c := rfl
@[simp] theorem State.setP_sc (s : State) (v : Word) : (s.setP v).sc = s.sc := rfl
@[simp] theorem State.setP_pi (s : State) (v : Word) : (s.setP v).pi = s.pi := rfl
@[simp] theorem State.setP_dp (s : State) (v : Word) : (s.setP v).dp = s.dp := rfl
@[simp] theorem State.setP_pmi (s : State) (v : Word) : (s.setP v).pmi = s.pmi := rfl
@[simp] theorem State.setP_rm (s : State) (v : Word) : (s.setP v).rm = s.rm := rfl
@[simp] theorem State.setP_mpe (s : State) (v : Word) : (s.setP v).mpe = s.mpe := rfl
@[simp] theorem State.setP_mask (s : State) (v : Word) : (s.setP v).mask = s.mask := rfl
@[simp] theorem State.setP_mask2 (s : State) (v : Word) : (s.setP v).mask2 = s.mask2 := rfl
@[simp] theorem State.setP_enbPending (s : State) (v : Word) : (s.setP v).enbPending = s.enbPending := rfl
@[simp] theorem State.setP_run (s : State) (v : Word) : (s.setP v).run = s.run := rfl
@[simp] theorem State.setP_switches (s : State) (v : Word) : (s.setP v).switches = s.switches := rfl
@[simp] theorem State.setP_switchesFixed (s : State) (v : Word) : (s.setP v).switchesFixed = s.switchesFixed := rfl
@[simp] theorem State.setP_mem (s : State) (v : Word) : (s.setP v).mem = s.mem := rfl
@[simp] theorem State.setP_events (s : State) (v : Word) : (s.setP v).events = s.events := rfl
@[simp] theorem State.setP_script (s : State) (v : Word) : (s.setP v).script = s.script := rfl
@[simp] theorem State.setP_draws (s : State) (v : Word) : (s.setP v).draws = s.draws := rfl
@[simp] theorem State.setP_config (s : State) (v : Word) : (s.setP v).config = s.config := rfl

@[simp] theorem State.setC_a (s : State) (v : Bool) : (s.setC v).a = s.a := rfl
@[simp] theorem State.setC_b (s : State) (v : Bool) : (s.setC v).b = s.b := rfl
@[simp] theorem State.setC_p (s : State) (v : Bool) : (s.setC v).p = s.p := rfl
@[simp] theorem State.setC_c (s : State) (v : Bool) : (s.setC v).c = v := rfl
@[simp] theorem State.setC_sc (s : State) (v : Bool) : (s.setC v).sc = s.sc := rfl
@[simp] theorem State.setC_pi (s : State) (v : Bool) : (s.setC v).pi = s.pi := rfl
@[simp] theorem State.setC_dp (s : State) (v : Bool) : (s.setC v).dp = s.dp := rfl
@[simp] theorem State.setC_pmi (s : State) (v : Bool) : (s.setC v).pmi = s.pmi := rfl
@[simp] theorem State.setC_rm (s : State) (v : Bool) : (s.setC v).rm = s.rm := rfl
@[simp] theorem State.setC_mpe (s : State) (v : Bool) : (s.setC v).mpe = s.mpe := rfl
@[simp] theorem State.setC_mask (s : State) (v : Bool) : (s.setC v).mask = s.mask := rfl
@[simp] theorem State.setC_mask2 (s : State) (v : Bool) : (s.setC v).mask2 = s.mask2 := rfl
@[simp] theorem State.setC_enbPending (s : State) (v : Bool) : (s.setC v).enbPending = s.enbPending := rfl
@[simp] theorem State.setC_run (s : State) (v : Bool) : (s.setC v).run = s.run := rfl
@[simp] theorem State.setC_switches (s : State) (v : Bool) : (s.setC v).switches = s.switches := rfl
@[simp] theorem State.setC_switchesFixed (s : State) (v : Bool) : (s.setC v).switchesFixed = s.switchesFixed := rfl
@[simp] theorem State.setC_mem (s : State) (v : Bool) : (s.setC v).mem = s.mem := rfl
@[simp] theorem State.setC_events (s : State) (v : Bool) : (s.setC v).events = s.events := rfl
@[simp] theorem State.setC_script (s : State) (v : Bool) : (s.setC v).script = s.script := rfl
@[simp] theorem State.setC_draws (s : State) (v : Bool) : (s.setC v).draws = s.draws := rfl
@[simp] theorem State.setC_config (s : State) (v : Bool) : (s.setC v).config = s.config := rfl

@[simp] theorem State.setSC_a (s : State) (v : BitVec 5) : (s.setSC v).a = s.a := rfl
@[simp] theorem State.setSC_b (s : State) (v : BitVec 5) : (s.setSC v).b = s.b := rfl
@[simp] theorem State.setSC_p (s : State) (v : BitVec 5) : (s.setSC v).p = s.p := rfl
@[simp] theorem State.setSC_c (s : State) (v : BitVec 5) : (s.setSC v).c = s.c := rfl
@[simp] theorem State.setSC_sc (s : State) (v : BitVec 5) : (s.setSC v).sc = v := rfl
@[simp] theorem State.setSC_pi (s : State) (v : BitVec 5) : (s.setSC v).pi = s.pi := rfl
@[simp] theorem State.setSC_dp (s : State) (v : BitVec 5) : (s.setSC v).dp = s.dp := rfl
@[simp] theorem State.setSC_pmi (s : State) (v : BitVec 5) : (s.setSC v).pmi = s.pmi := rfl
@[simp] theorem State.setSC_rm (s : State) (v : BitVec 5) : (s.setSC v).rm = s.rm := rfl
@[simp] theorem State.setSC_mpe (s : State) (v : BitVec 5) : (s.setSC v).mpe = s.mpe := rfl
@[simp] theorem State.setSC_mask (s : State) (v : BitVec 5) : (s.setSC v).mask = s.mask := rfl
@[simp] theorem State.setSC_mask2 (s : State) (v : BitVec 5) : (s.setSC v).mask2 = s.mask2 := rfl
@[simp] theorem State.setSC_enbPending (s : State) (v : BitVec 5) : (s.setSC v).enbPending = s.enbPending := rfl
@[simp] theorem State.setSC_run (s : State) (v : BitVec 5) : (s.setSC v).run = s.run := rfl
@[simp] theorem State.setSC_switches (s : State) (v : BitVec 5) : (s.setSC v).switches = s.switches := rfl
@[simp] theorem State.setSC_switchesFixed (s : State) (v : BitVec 5) : (s.setSC v).switchesFixed = s.switchesFixed := rfl
@[simp] theorem State.setSC_mem (s : State) (v : BitVec 5) : (s.setSC v).mem = s.mem := rfl
@[simp] theorem State.setSC_events (s : State) (v : BitVec 5) : (s.setSC v).events = s.events := rfl
@[simp] theorem State.setSC_script (s : State) (v : BitVec 5) : (s.setSC v).script = s.script := rfl
@[simp] theorem State.setSC_draws (s : State) (v : BitVec 5) : (s.setSC v).draws = s.draws := rfl
@[simp] theorem State.setSC_config (s : State) (v : BitVec 5) : (s.setSC v).config = s.config := rfl

@[simp] theorem State.setPI_a (s : State) (v : Bool) : (s.setPI v).a = s.a := rfl
@[simp] theorem State.setPI_b (s : State) (v : Bool) : (s.setPI v).b = s.b := rfl
@[simp] theorem State.setPI_p (s : State) (v : Bool) : (s.setPI v).p = s.p := rfl
@[simp] theorem State.setPI_c (s : State) (v : Bool) : (s.setPI v).c = s.c := rfl
@[simp] theorem State.setPI_sc (s : State) (v : Bool) : (s.setPI v).sc = s.sc := rfl
@[simp] theorem State.setPI_pi (s : State) (v : Bool) : (s.setPI v).pi = v := rfl
@[simp] theorem State.setPI_dp (s : State) (v : Bool) : (s.setPI v).dp = s.dp := rfl
@[simp] theorem State.setPI_pmi (s : State) (v : Bool) : (s.setPI v).pmi = s.pmi := rfl
@[simp] theorem State.setPI_rm (s : State) (v : Bool) : (s.setPI v).rm = s.rm := rfl
@[simp] theorem State.setPI_mpe (s : State) (v : Bool) : (s.setPI v).mpe = s.mpe := rfl
@[simp] theorem State.setPI_mask (s : State) (v : Bool) : (s.setPI v).mask = s.mask := rfl
@[simp] theorem State.setPI_mask2 (s : State) (v : Bool) : (s.setPI v).mask2 = s.mask2 := rfl
@[simp] theorem State.setPI_enbPending (s : State) (v : Bool) : (s.setPI v).enbPending = s.enbPending := rfl
@[simp] theorem State.setPI_run (s : State) (v : Bool) : (s.setPI v).run = s.run := rfl
@[simp] theorem State.setPI_switches (s : State) (v : Bool) : (s.setPI v).switches = s.switches := rfl
@[simp] theorem State.setPI_switchesFixed (s : State) (v : Bool) : (s.setPI v).switchesFixed = s.switchesFixed := rfl
@[simp] theorem State.setPI_mem (s : State) (v : Bool) : (s.setPI v).mem = s.mem := rfl
@[simp] theorem State.setPI_events (s : State) (v : Bool) : (s.setPI v).events = s.events := rfl
@[simp] theorem State.setPI_script (s : State) (v : Bool) : (s.setPI v).script = s.script := rfl
@[simp] theorem State.setPI_draws (s : State) (v : Bool) : (s.setPI v).draws = s.draws := rfl
@[simp] theorem State.setPI_config (s : State) (v : Bool) : (s.setPI v).config = s.config := rfl

@[simp] theorem State.setDP_a (s : State) (v : Bool) : (s.setDP v).a = s.a := rfl
@[simp] theorem State.setDP_b (s : State) (v : Bool) : (s.setDP v).b = s.b := rfl
@[simp] theorem State.setDP_p (s : State) (v : Bool) : (s.setDP v).p = s.p := rfl
@[simp] theorem State.setDP_c (s : State) (v : Bool) : (s.setDP v).c = s.c := rfl
@[simp] theorem State.setDP_sc (s : State) (v : Bool) : (s.setDP v).sc = s.sc := rfl
@[simp] theorem State.setDP_pi (s : State) (v : Bool) : (s.setDP v).pi = s.pi := rfl
@[simp] theorem State.setDP_dp (s : State) (v : Bool) : (s.setDP v).dp = v := rfl
@[simp] theorem State.setDP_pmi (s : State) (v : Bool) : (s.setDP v).pmi = s.pmi := rfl
@[simp] theorem State.setDP_rm (s : State) (v : Bool) : (s.setDP v).rm = s.rm := rfl
@[simp] theorem State.setDP_mpe (s : State) (v : Bool) : (s.setDP v).mpe = s.mpe := rfl
@[simp] theorem State.setDP_mask (s : State) (v : Bool) : (s.setDP v).mask = s.mask := rfl
@[simp] theorem State.setDP_mask2 (s : State) (v : Bool) : (s.setDP v).mask2 = s.mask2 := rfl
@[simp] theorem State.setDP_enbPending (s : State) (v : Bool) : (s.setDP v).enbPending = s.enbPending := rfl
@[simp] theorem State.setDP_run (s : State) (v : Bool) : (s.setDP v).run = s.run := rfl
@[simp] theorem State.setDP_switches (s : State) (v : Bool) : (s.setDP v).switches = s.switches := rfl
@[simp] theorem State.setDP_switchesFixed (s : State) (v : Bool) : (s.setDP v).switchesFixed = s.switchesFixed := rfl
@[simp] theorem State.setDP_mem (s : State) (v : Bool) : (s.setDP v).mem = s.mem := rfl
@[simp] theorem State.setDP_events (s : State) (v : Bool) : (s.setDP v).events = s.events := rfl
@[simp] theorem State.setDP_script (s : State) (v : Bool) : (s.setDP v).script = s.script := rfl
@[simp] theorem State.setDP_draws (s : State) (v : Bool) : (s.setDP v).draws = s.draws := rfl
@[simp] theorem State.setDP_config (s : State) (v : Bool) : (s.setDP v).config = s.config := rfl

@[simp] theorem State.setPMI_a (s : State) (v : Bool) : (s.setPMI v).a = s.a := rfl
@[simp] theorem State.setPMI_b (s : State) (v : Bool) : (s.setPMI v).b = s.b := rfl
@[simp] theorem State.setPMI_p (s : State) (v : Bool) : (s.setPMI v).p = s.p := rfl
@[simp] theorem State.setPMI_c (s : State) (v : Bool) : (s.setPMI v).c = s.c := rfl
@[simp] theorem State.setPMI_sc (s : State) (v : Bool) : (s.setPMI v).sc = s.sc := rfl
@[simp] theorem State.setPMI_pi (s : State) (v : Bool) : (s.setPMI v).pi = s.pi := rfl
@[simp] theorem State.setPMI_dp (s : State) (v : Bool) : (s.setPMI v).dp = s.dp := rfl
@[simp] theorem State.setPMI_pmi (s : State) (v : Bool) : (s.setPMI v).pmi = v := rfl
@[simp] theorem State.setPMI_rm (s : State) (v : Bool) : (s.setPMI v).rm = s.rm := rfl
@[simp] theorem State.setPMI_mpe (s : State) (v : Bool) : (s.setPMI v).mpe = s.mpe := rfl
@[simp] theorem State.setPMI_mask (s : State) (v : Bool) : (s.setPMI v).mask = s.mask := rfl
@[simp] theorem State.setPMI_mask2 (s : State) (v : Bool) : (s.setPMI v).mask2 = s.mask2 := rfl
@[simp] theorem State.setPMI_enbPending (s : State) (v : Bool) : (s.setPMI v).enbPending = s.enbPending := rfl
@[simp] theorem State.setPMI_run (s : State) (v : Bool) : (s.setPMI v).run = s.run := rfl
@[simp] theorem State.setPMI_switches (s : State) (v : Bool) : (s.setPMI v).switches = s.switches := rfl
@[simp] theorem State.setPMI_switchesFixed (s : State) (v : Bool) : (s.setPMI v).switchesFixed = s.switchesFixed := rfl
@[simp] theorem State.setPMI_mem (s : State) (v : Bool) : (s.setPMI v).mem = s.mem := rfl
@[simp] theorem State.setPMI_events (s : State) (v : Bool) : (s.setPMI v).events = s.events := rfl
@[simp] theorem State.setPMI_script (s : State) (v : Bool) : (s.setPMI v).script = s.script := rfl
@[simp] theorem State.setPMI_draws (s : State) (v : Bool) : (s.setPMI v).draws = s.draws := rfl
@[simp] theorem State.setPMI_config (s : State) (v : Bool) : (s.setPMI v).config = s.config := rfl

@[simp] theorem State.setRM_a (s : State) (v : Bool) : (s.setRM v).a = s.a := rfl
@[simp] theorem State.setRM_b (s : State) (v : Bool) : (s.setRM v).b = s.b := rfl
@[simp] theorem State.setRM_p (s : State) (v : Bool) : (s.setRM v).p = s.p := rfl
@[simp] theorem State.setRM_c (s : State) (v : Bool) : (s.setRM v).c = s.c := rfl
@[simp] theorem State.setRM_sc (s : State) (v : Bool) : (s.setRM v).sc = s.sc := rfl
@[simp] theorem State.setRM_pi (s : State) (v : Bool) : (s.setRM v).pi = s.pi := rfl
@[simp] theorem State.setRM_dp (s : State) (v : Bool) : (s.setRM v).dp = s.dp := rfl
@[simp] theorem State.setRM_pmi (s : State) (v : Bool) : (s.setRM v).pmi = s.pmi := rfl
@[simp] theorem State.setRM_rm (s : State) (v : Bool) : (s.setRM v).rm = v := rfl
@[simp] theorem State.setRM_mpe (s : State) (v : Bool) : (s.setRM v).mpe = s.mpe := rfl
@[simp] theorem State.setRM_mask (s : State) (v : Bool) : (s.setRM v).mask = s.mask := rfl
@[simp] theorem State.setRM_mask2 (s : State) (v : Bool) : (s.setRM v).mask2 = s.mask2 := rfl
@[simp] theorem State.setRM_enbPending (s : State) (v : Bool) : (s.setRM v).enbPending = s.enbPending := rfl
@[simp] theorem State.setRM_run (s : State) (v : Bool) : (s.setRM v).run = s.run := rfl
@[simp] theorem State.setRM_switches (s : State) (v : Bool) : (s.setRM v).switches = s.switches := rfl
@[simp] theorem State.setRM_switchesFixed (s : State) (v : Bool) : (s.setRM v).switchesFixed = s.switchesFixed := rfl
@[simp] theorem State.setRM_mem (s : State) (v : Bool) : (s.setRM v).mem = s.mem := rfl
@[simp] theorem State.setRM_events (s : State) (v : Bool) : (s.setRM v).events = s.events := rfl
@[simp] theorem State.setRM_script (s : State) (v : Bool) : (s.setRM v).script = s.script := rfl
@[simp] theorem State.setRM_draws (s : State) (v : Bool) : (s.setRM v).draws = s.draws := rfl
@[simp] theorem State.setRM_config (s : State) (v : Bool) : (s.setRM v).config = s.config := rfl

@[simp] theorem State.setMPE_a (s : State) (v : Bool) : (s.setMPE v).a = s.a := rfl
@[simp] theorem State.setMPE_b (s : State) (v : Bool) : (s.setMPE v).b = s.b := rfl
@[simp] theorem State.setMPE_p (s : State) (v : Bool) : (s.setMPE v).p = s.p := rfl
@[simp] theorem State.setMPE_c (s : State) (v : Bool) : (s.setMPE v).c = s.c := rfl
@[simp] theorem State.setMPE_sc (s : State) (v : Bool) : (s.setMPE v).sc = s.sc := rfl
@[simp] theorem State.setMPE_pi (s : State) (v : Bool) : (s.setMPE v).pi = s.pi := rfl
@[simp] theorem State.setMPE_dp (s : State) (v : Bool) : (s.setMPE v).dp = s.dp := rfl
@[simp] theorem State.setMPE_pmi (s : State) (v : Bool) : (s.setMPE v).pmi = s.pmi := rfl
@[simp] theorem State.setMPE_rm (s : State) (v : Bool) : (s.setMPE v).rm = s.rm := rfl
@[simp] theorem State.setMPE_mpe (s : State) (v : Bool) : (s.setMPE v).mpe = v := rfl
@[simp] theorem State.setMPE_mask (s : State) (v : Bool) : (s.setMPE v).mask = s.mask := rfl
@[simp] theorem State.setMPE_mask2 (s : State) (v : Bool) : (s.setMPE v).mask2 = s.mask2 := rfl
@[simp] theorem State.setMPE_enbPending (s : State) (v : Bool) : (s.setMPE v).enbPending = s.enbPending := rfl
@[simp] theorem State.setMPE_run (s : State) (v : Bool) : (s.setMPE v).run = s.run := rfl
@[simp] theorem State.setMPE_switches (s : State) (v : Bool) : (s.setMPE v).switches = s.switches := rfl
@[simp] theorem State.setMPE_switchesFixed (s : State) (v : Bool) : (s.setMPE v).switchesFixed = s.switchesFixed := rfl
@[simp] theorem State.setMPE_mem (s : State) (v : Bool) : (s.setMPE v).mem = s.mem := rfl
@[simp] theorem State.setMPE_events (s : State) (v : Bool) : (s.setMPE v).events = s.events := rfl
@[simp] theorem State.setMPE_script (s : State) (v : Bool) : (s.setMPE v).script = s.script := rfl
@[simp] theorem State.setMPE_draws (s : State) (v : Bool) : (s.setMPE v).draws = s.draws := rfl
@[simp] theorem State.setMPE_config (s : State) (v : Bool) : (s.setMPE v).config = s.config := rfl

@[simp] theorem State.setMask_a (s : State) (v : Word) : (s.setMask v).a = s.a := rfl
@[simp] theorem State.setMask_b (s : State) (v : Word) : (s.setMask v).b = s.b := rfl
@[simp] theorem State.setMask_p (s : State) (v : Word) : (s.setMask v).p = s.p := rfl
@[simp] theorem State.setMask_c (s : State) (v : Word) : (s.setMask v).c = s.c := rfl
@[simp] theorem State.setMask_sc (s : State) (v : Word) : (s.setMask v).sc = s.sc := rfl
@[simp] theorem State.setMask_pi (s : State) (v : Word) : (s.setMask v).pi = s.pi := rfl
@[simp] theorem State.setMask_dp (s : State) (v : Word) : (s.setMask v).dp = s.dp := rfl
@[simp] theorem State.setMask_pmi (s : State) (v : Word) : (s.setMask v).pmi = s.pmi := rfl
@[simp] theorem State.setMask_rm (s : State) (v : Word) : (s.setMask v).rm = s.rm := rfl
@[simp] theorem State.setMask_mpe (s : State) (v : Word) : (s.setMask v).mpe = s.mpe := rfl
@[simp] theorem State.setMask_mask (s : State) (v : Word) : (s.setMask v).mask = v := rfl
@[simp] theorem State.setMask_mask2 (s : State) (v : Word) : (s.setMask v).mask2 = s.mask2 := rfl
@[simp] theorem State.setMask_enbPending (s : State) (v : Word) : (s.setMask v).enbPending = s.enbPending := rfl
@[simp] theorem State.setMask_run (s : State) (v : Word) : (s.setMask v).run = s.run := rfl
@[simp] theorem State.setMask_switches (s : State) (v : Word) : (s.setMask v).switches = s.switches := rfl
@[simp] theorem State.setMask_switchesFixed (s : State) (v : Word) : (s.setMask v).switchesFixed = s.switchesFixed := rfl
@[simp] theorem State.setMask_mem (s : State) (v : Word) : (s.setMask v).mem = s.mem := rfl
@[simp] theorem State.setMask_events (s : State) (v : Word) : (s.setMask v).events = s.events := rfl
@[simp] theorem State.setMask_script (s : State) (v : Word) : (s.setMask v).script = s.script := rfl
@[simp] theorem State.setMask_draws (s : State) (v : Word) : (s.setMask v).draws = s.draws := rfl
@[simp] theorem State.setMask_config (s : State) (v : Word) : (s.setMask v).config = s.config := rfl

@[simp] theorem State.setMask2_a (s : State) (v : Word) : (s.setMask2 v).a = s.a := rfl
@[simp] theorem State.setMask2_b (s : State) (v : Word) : (s.setMask2 v).b = s.b := rfl
@[simp] theorem State.setMask2_p (s : State) (v : Word) : (s.setMask2 v).p = s.p := rfl
@[simp] theorem State.setMask2_c (s : State) (v : Word) : (s.setMask2 v).c = s.c := rfl
@[simp] theorem State.setMask2_sc (s : State) (v : Word) : (s.setMask2 v).sc = s.sc := rfl
@[simp] theorem State.setMask2_pi (s : State) (v : Word) : (s.setMask2 v).pi = s.pi := rfl
@[simp] theorem State.setMask2_dp (s : State) (v : Word) : (s.setMask2 v).dp = s.dp := rfl
@[simp] theorem State.setMask2_pmi (s : State) (v : Word) : (s.setMask2 v).pmi = s.pmi := rfl
@[simp] theorem State.setMask2_rm (s : State) (v : Word) : (s.setMask2 v).rm = s.rm := rfl
@[simp] theorem State.setMask2_mpe (s : State) (v : Word) : (s.setMask2 v).mpe = s.mpe := rfl
@[simp] theorem State.setMask2_mask (s : State) (v : Word) : (s.setMask2 v).mask = s.mask := rfl
@[simp] theorem State.setMask2_mask2 (s : State) (v : Word) : (s.setMask2 v).mask2 = v := rfl
@[simp] theorem State.setMask2_enbPending (s : State) (v : Word) : (s.setMask2 v).enbPending = s.enbPending := rfl
@[simp] theorem State.setMask2_run (s : State) (v : Word) : (s.setMask2 v).run = s.run := rfl
@[simp] theorem State.setMask2_switches (s : State) (v : Word) : (s.setMask2 v).switches = s.switches := rfl
@[simp] theorem State.setMask2_switchesFixed (s : State) (v : Word) : (s.setMask2 v).switchesFixed = s.switchesFixed := rfl
@[simp] theorem State.setMask2_mem (s : State) (v : Word) : (s.setMask2 v).mem = s.mem := rfl
@[simp] theorem State.setMask2_events (s : State) (v : Word) : (s.setMask2 v).events = s.events := rfl
@[simp] theorem State.setMask2_script (s : State) (v : Word) : (s.setMask2 v).script = s.script := rfl
@[simp] theorem State.setMask2_draws (s : State) (v : Word) : (s.setMask2 v).draws = s.draws := rfl
@[simp] theorem State.setMask2_config (s : State) (v : Word) : (s.setMask2 v).config = s.config := rfl

@[simp] theorem State.setEnbPending_a (s : State) (v : Bool) : (s.setEnbPending v).a = s.a := rfl
@[simp] theorem State.setEnbPending_b (s : State) (v : Bool) : (s.setEnbPending v).b = s.b := rfl
@[simp] theorem State.setEnbPending_p (s : State) (v : Bool) : (s.setEnbPending v).p = s.p := rfl
@[simp] theorem State.setEnbPending_c (s : State) (v : Bool) : (s.setEnbPending v).c = s.c := rfl
@[simp] theorem State.setEnbPending_sc (s : State) (v : Bool) : (s.setEnbPending v).sc = s.sc := rfl
@[simp] theorem State.setEnbPending_pi (s : State) (v : Bool) : (s.setEnbPending v).pi = s.pi := rfl
@[simp] theorem State.setEnbPending_dp (s : State) (v : Bool) : (s.setEnbPending v).dp = s.dp := rfl
@[simp] theorem State.setEnbPending_pmi (s : State) (v : Bool) : (s.setEnbPending v).pmi = s.pmi := rfl
@[simp] theorem State.setEnbPending_rm (s : State) (v : Bool) : (s.setEnbPending v).rm = s.rm := rfl
@[simp] theorem State.setEnbPending_mpe (s : State) (v : Bool) : (s.setEnbPending v).mpe = s.mpe := rfl
@[simp] theorem State.setEnbPending_mask (s : State) (v : Bool) : (s.setEnbPending v).mask = s.mask := rfl
@[simp] theorem State.setEnbPending_mask2 (s : State) (v : Bool) : (s.setEnbPending v).mask2 = s.mask2 := rfl
@[simp] theorem State.setEnbPending_enbPending (s : State) (v : Bool) : (s.setEnbPending v).enbPending = v := rfl
@[simp] theorem State.setEnbPending_run (s : State) (v : Bool) : (s.setEnbPending v).run = s.run := rfl
@[simp] theorem State.setEnbPending_switches (s : State) (v : Bool) : (s.setEnbPending v).switches = s.switches := rfl
@[simp] theorem State.setEnbPending_switchesFixed (s : State) (v : Bool) : (s.setEnbPending v).switchesFixed = s.switchesFixed := rfl
@[simp] theorem State.setEnbPending_mem (s : State) (v : Bool) : (s.setEnbPending v).mem = s.mem := rfl
@[simp] theorem State.setEnbPending_events (s : State) (v : Bool) : (s.setEnbPending v).events = s.events := rfl
@[simp] theorem State.setEnbPending_script (s : State) (v : Bool) : (s.setEnbPending v).script = s.script := rfl
@[simp] theorem State.setEnbPending_draws (s : State) (v : Bool) : (s.setEnbPending v).draws = s.draws := rfl
@[simp] theorem State.setEnbPending_config (s : State) (v : Bool) : (s.setEnbPending v).config = s.config := rfl

@[simp] theorem State.setRun_a (s : State) (v : Bool) : (s.setRun v).a = s.a := rfl
@[simp] theorem State.setRun_b (s : State) (v : Bool) : (s.setRun v).b = s.b := rfl
@[simp] theorem State.setRun_p (s : State) (v : Bool) : (s.setRun v).p = s.p := rfl
@[simp] theorem State.setRun_c (s : State) (v : Bool) : (s.setRun v).c = s.c := rfl
@[simp] theorem State.setRun_sc (s : State) (v : Bool) : (s.setRun v).sc = s.sc := rfl
@[simp] theorem State.setRun_pi (s : State) (v : Bool) : (s.setRun v).pi = s.pi := rfl
@[simp] theorem State.setRun_dp (s : State) (v : Bool) : (s.setRun v).dp = s.dp := rfl
@[simp] theorem State.setRun_pmi (s : State) (v : Bool) : (s.setRun v).pmi = s.pmi := rfl
@[simp] theorem State.setRun_rm (s : State) (v : Bool) : (s.setRun v).rm = s.rm := rfl
@[simp] theorem State.setRun_mpe (s : State) (v : Bool) : (s.setRun v).mpe = s.mpe := rfl
@[simp] theorem State.setRun_mask (s : State) (v : Bool) : (s.setRun v).mask = s.mask := rfl
@[simp] theorem State.setRun_mask2 (s : State) (v : Bool) : (s.setRun v).mask2 = s.mask2 := rfl
@[simp] theorem State.setRun_enbPending (s : State) (v : Bool) : (s.setRun v).enbPending = s.enbPending := rfl
@[simp] theorem State.setRun_run (s : State) (v : Bool) : (s.setRun v).run = v := rfl
@[simp] theorem State.setRun_switches (s : State) (v : Bool) : (s.setRun v).switches = s.switches := rfl
@[simp] theorem State.setRun_switchesFixed (s : State) (v : Bool) : (s.setRun v).switchesFixed = s.switchesFixed := rfl
@[simp] theorem State.setRun_mem (s : State) (v : Bool) : (s.setRun v).mem = s.mem := rfl
@[simp] theorem State.setRun_events (s : State) (v : Bool) : (s.setRun v).events = s.events := rfl
@[simp] theorem State.setRun_script (s : State) (v : Bool) : (s.setRun v).script = s.script := rfl
@[simp] theorem State.setRun_draws (s : State) (v : Bool) : (s.setRun v).draws = s.draws := rfl
@[simp] theorem State.setRun_config (s : State) (v : Bool) : (s.setRun v).config = s.config := rfl

@[simp] theorem State.setMem_a (s : State) (v : Memory) : (s.setMem v).a = s.a := rfl
@[simp] theorem State.setMem_b (s : State) (v : Memory) : (s.setMem v).b = s.b := rfl
@[simp] theorem State.setMem_p (s : State) (v : Memory) : (s.setMem v).p = s.p := rfl
@[simp] theorem State.setMem_c (s : State) (v : Memory) : (s.setMem v).c = s.c := rfl
@[simp] theorem State.setMem_sc (s : State) (v : Memory) : (s.setMem v).sc = s.sc := rfl
@[simp] theorem State.setMem_pi (s : State) (v : Memory) : (s.setMem v).pi = s.pi := rfl
@[simp] theorem State.setMem_dp (s : State) (v : Memory) : (s.setMem v).dp = s.dp := rfl
@[simp] theorem State.setMem_pmi (s : State) (v : Memory) : (s.setMem v).pmi = s.pmi := rfl
@[simp] theorem State.setMem_rm (s : State) (v : Memory) : (s.setMem v).rm = s.rm := rfl
@[simp] theorem State.setMem_mpe (s : State) (v : Memory) : (s.setMem v).mpe = s.mpe := rfl
@[simp] theorem State.setMem_mask (s : State) (v : Memory) : (s.setMem v).mask = s.mask := rfl
@[simp] theorem State.setMem_mask2 (s : State) (v : Memory) : (s.setMem v).mask2 = s.mask2 := rfl
@[simp] theorem State.setMem_enbPending (s : State) (v : Memory) : (s.setMem v).enbPending = s.enbPending := rfl
@[simp] theorem State.setMem_run (s : State) (v : Memory) : (s.setMem v).run = s.run := rfl
@[simp] theorem State.setMem_switches (s : State) (v : Memory) : (s.setMem v).switches = s.switches := rfl
@[simp] theorem State.setMem_switchesFixed (s : State) (v : Memory) : (s.setMem v).switchesFixed = s.switchesFixed := rfl
@[simp] theorem State.setMem_mem (s : State) (v : Memory) : (s.setMem v).mem = v := rfl
@[simp] theorem State.setMem_events (s : State) (v : Memory) : (s.setMem v).events = s.events := rfl
@[simp] theorem State.setMem_script (s : State) (v : Memory) : (s.setMem v).script = s.script := rfl
@[simp] theorem State.setMem_draws (s : State) (v : Memory) : (s.setMem v).draws = s.draws := rfl
@[simp] theorem State.setMem_config (s : State) (v : Memory) : (s.setMem v).config = s.config := rfl

@[simp] theorem State.setEvents_a (s : State) (v : List IoEvent) : (s.setEvents v).a = s.a := rfl
@[simp] theorem State.setEvents_b (s : State) (v : List IoEvent) : (s.setEvents v).b = s.b := rfl
@[simp] theorem State.setEvents_p (s : State) (v : List IoEvent) : (s.setEvents v).p = s.p := rfl
@[simp] theorem State.setEvents_c (s : State) (v : List IoEvent) : (s.setEvents v).c = s.c := rfl
@[simp] theorem State.setEvents_sc (s : State) (v : List IoEvent) : (s.setEvents v).sc = s.sc := rfl
@[simp] theorem State.setEvents_pi (s : State) (v : List IoEvent) : (s.setEvents v).pi = s.pi := rfl
@[simp] theorem State.setEvents_dp (s : State) (v : List IoEvent) : (s.setEvents v).dp = s.dp := rfl
@[simp] theorem State.setEvents_pmi (s : State) (v : List IoEvent) : (s.setEvents v).pmi = s.pmi := rfl
@[simp] theorem State.setEvents_rm (s : State) (v : List IoEvent) : (s.setEvents v).rm = s.rm := rfl
@[simp] theorem State.setEvents_mpe (s : State) (v : List IoEvent) : (s.setEvents v).mpe = s.mpe := rfl
@[simp] theorem State.setEvents_mask (s : State) (v : List IoEvent) : (s.setEvents v).mask = s.mask := rfl
@[simp] theorem State.setEvents_mask2 (s : State) (v : List IoEvent) : (s.setEvents v).mask2 = s.mask2 := rfl
@[simp] theorem State.setEvents_enbPending (s : State) (v : List IoEvent) : (s.setEvents v).enbPending = s.enbPending := rfl
@[simp] theorem State.setEvents_run (s : State) (v : List IoEvent) : (s.setEvents v).run = s.run := rfl
@[simp] theorem State.setEvents_switches (s : State) (v : List IoEvent) : (s.setEvents v).switches = s.switches := rfl
@[simp] theorem State.setEvents_switchesFixed (s : State) (v : List IoEvent) : (s.setEvents v).switchesFixed = s.switchesFixed := rfl
@[simp] theorem State.setEvents_mem (s : State) (v : List IoEvent) : (s.setEvents v).mem = s.mem := rfl
@[simp] theorem State.setEvents_events (s : State) (v : List IoEvent) : (s.setEvents v).events = v := rfl
@[simp] theorem State.setEvents_script (s : State) (v : List IoEvent) : (s.setEvents v).script = s.script := rfl
@[simp] theorem State.setEvents_draws (s : State) (v : List IoEvent) : (s.setEvents v).draws = s.draws := rfl
@[simp] theorem State.setEvents_config (s : State) (v : List IoEvent) : (s.setEvents v).config = s.config := rfl

@[simp] theorem State.setScript_a (s : State) (v : Script) : (s.setScript v).a = s.a := rfl
@[simp] theorem State.setScript_b (s : State) (v : Script) : (s.setScript v).b = s.b := rfl
@[simp] theorem State.setScript_p (s : State) (v : Script) : (s.setScript v).p = s.p := rfl
@[simp] theorem State.setScript_c (s : State) (v : Script) : (s.setScript v).c = s.c := rfl
@[simp] theorem State.setScript_sc (s : State) (v : Script) : (s.setScript v).sc = s.sc := rfl
@[simp] theorem State.setScript_pi (s : State) (v : Script) : (s.setScript v).pi = s.pi := rfl
@[simp] theorem State.setScript_dp (s : State) (v : Script) : (s.setScript v).dp = s.dp := rfl
@[simp] theorem State.setScript_pmi (s : State) (v : Script) : (s.setScript v).pmi = s.pmi := rfl
@[simp] theorem State.setScript_rm (s : State) (v : Script) : (s.setScript v).rm = s.rm := rfl
@[simp] theorem State.setScript_mpe (s : State) (v : Script) : (s.setScript v).mpe = s.mpe := rfl
@[simp] theorem State.setScript_mask (s : State) (v : Script) : (s.setScript v).mask = s.mask := rfl
@[simp] theorem State.setScript_mask2 (s : State) (v : Script) : (s.setScript v).mask2 = s.mask2 := rfl
@[simp] theorem State.setScript_enbPending (s : State) (v : Script) : (s.setScript v).enbPending = s.enbPending := rfl
@[simp] theorem State.setScript_run (s : State) (v : Script) : (s.setScript v).run = s.run := rfl
@[simp] theorem State.setScript_switches (s : State) (v : Script) : (s.setScript v).switches = s.switches := rfl
@[simp] theorem State.setScript_switchesFixed (s : State) (v : Script) : (s.setScript v).switchesFixed = s.switchesFixed := rfl
@[simp] theorem State.setScript_mem (s : State) (v : Script) : (s.setScript v).mem = s.mem := rfl
@[simp] theorem State.setScript_events (s : State) (v : Script) : (s.setScript v).events = s.events := rfl
@[simp] theorem State.setScript_script (s : State) (v : Script) : (s.setScript v).script = v := rfl
@[simp] theorem State.setScript_draws (s : State) (v : Script) : (s.setScript v).draws = s.draws := rfl
@[simp] theorem State.setScript_config (s : State) (v : Script) : (s.setScript v).config = s.config := rfl

@[simp] theorem State.setDraws_a (s : State) (v : Nat) : (s.setDraws v).a = s.a := rfl
@[simp] theorem State.setDraws_b (s : State) (v : Nat) : (s.setDraws v).b = s.b := rfl
@[simp] theorem State.setDraws_p (s : State) (v : Nat) : (s.setDraws v).p = s.p := rfl
@[simp] theorem State.setDraws_c (s : State) (v : Nat) : (s.setDraws v).c = s.c := rfl
@[simp] theorem State.setDraws_sc (s : State) (v : Nat) : (s.setDraws v).sc = s.sc := rfl
@[simp] theorem State.setDraws_pi (s : State) (v : Nat) : (s.setDraws v).pi = s.pi := rfl
@[simp] theorem State.setDraws_dp (s : State) (v : Nat) : (s.setDraws v).dp = s.dp := rfl
@[simp] theorem State.setDraws_pmi (s : State) (v : Nat) : (s.setDraws v).pmi = s.pmi := rfl
@[simp] theorem State.setDraws_rm (s : State) (v : Nat) : (s.setDraws v).rm = s.rm := rfl
@[simp] theorem State.setDraws_mpe (s : State) (v : Nat) : (s.setDraws v).mpe = s.mpe := rfl
@[simp] theorem State.setDraws_mask (s : State) (v : Nat) : (s.setDraws v).mask = s.mask := rfl
@[simp] theorem State.setDraws_mask2 (s : State) (v : Nat) : (s.setDraws v).mask2 = s.mask2 := rfl
@[simp] theorem State.setDraws_enbPending (s : State) (v : Nat) : (s.setDraws v).enbPending = s.enbPending := rfl
@[simp] theorem State.setDraws_run (s : State) (v : Nat) : (s.setDraws v).run = s.run := rfl
@[simp] theorem State.setDraws_switches (s : State) (v : Nat) : (s.setDraws v).switches = s.switches := rfl
@[simp] theorem State.setDraws_switchesFixed (s : State) (v : Nat) : (s.setDraws v).switchesFixed = s.switchesFixed := rfl
@[simp] theorem State.setDraws_mem (s : State) (v : Nat) : (s.setDraws v).mem = s.mem := rfl
@[simp] theorem State.setDraws_events (s : State) (v : Nat) : (s.setDraws v).events = s.events := rfl
@[simp] theorem State.setDraws_script (s : State) (v : Nat) : (s.setDraws v).script = s.script := rfl
@[simp] theorem State.setDraws_draws (s : State) (v : Nat) : (s.setDraws v).draws = v := rfl
@[simp] theorem State.setDraws_config (s : State) (v : Nat) : (s.setDraws v).config = s.config := rfl

@[simp] theorem State.setA_dpBit (s : State) (v : Word) : (s.setA v).dpBit = s.dpBit := rfl
@[simp] theorem State.setA_pmiBit (s : State) (v : Word) : (s.setA v).pmiBit = s.pmiBit := rfl
@[simp] theorem State.setA_rmBit (s : State) (v : Word) : (s.setA v).rmBit = s.rmBit := rfl
@[simp] theorem State.setA_mpeBit (s : State) (v : Word) : (s.setA v).mpeBit = s.mpeBit := rfl
@[simp] theorem State.setA_x (s : State) (v : Word) : (s.setA v).x = s.x := rfl
@[simp] theorem State.setB_dpBit (s : State) (v : Word) : (s.setB v).dpBit = s.dpBit := rfl
@[simp] theorem State.setB_pmiBit (s : State) (v : Word) : (s.setB v).pmiBit = s.pmiBit := rfl
@[simp] theorem State.setB_rmBit (s : State) (v : Word) : (s.setB v).rmBit = s.rmBit := rfl
@[simp] theorem State.setB_mpeBit (s : State) (v : Word) : (s.setB v).mpeBit = s.mpeBit := rfl
@[simp] theorem State.setB_x (s : State) (v : Word) : (s.setB v).x = s.x := rfl
@[simp] theorem State.setP_dpBit (s : State) (v : Word) : (s.setP v).dpBit = s.dpBit := rfl
@[simp] theorem State.setP_pmiBit (s : State) (v : Word) : (s.setP v).pmiBit = s.pmiBit := rfl
@[simp] theorem State.setP_rmBit (s : State) (v : Word) : (s.setP v).rmBit = s.rmBit := rfl
@[simp] theorem State.setP_mpeBit (s : State) (v : Word) : (s.setP v).mpeBit = s.mpeBit := rfl
@[simp] theorem State.setP_x (s : State) (v : Word) : (s.setP v).x = s.x := rfl
@[simp] theorem State.setC_dpBit (s : State) (v : Bool) : (s.setC v).dpBit = s.dpBit := rfl
@[simp] theorem State.setC_pmiBit (s : State) (v : Bool) : (s.setC v).pmiBit = s.pmiBit := rfl
@[simp] theorem State.setC_rmBit (s : State) (v : Bool) : (s.setC v).rmBit = s.rmBit := rfl
@[simp] theorem State.setC_mpeBit (s : State) (v : Bool) : (s.setC v).mpeBit = s.mpeBit := rfl
@[simp] theorem State.setC_x (s : State) (v : Bool) : (s.setC v).x = s.x := rfl
@[simp] theorem State.setSC_dpBit (s : State) (v : BitVec 5) : (s.setSC v).dpBit = s.dpBit := rfl
@[simp] theorem State.setSC_pmiBit (s : State) (v : BitVec 5) : (s.setSC v).pmiBit = s.pmiBit := rfl
@[simp] theorem State.setSC_rmBit (s : State) (v : BitVec 5) : (s.setSC v).rmBit = s.rmBit := rfl
@[simp] theorem State.setSC_mpeBit (s : State) (v : BitVec 5) : (s.setSC v).mpeBit = s.mpeBit := rfl
@[simp] theorem State.setSC_x (s : State) (v : BitVec 5) : (s.setSC v).x = s.x := rfl
@[simp] theorem State.setPI_dpBit (s : State) (v : Bool) : (s.setPI v).dpBit = s.dpBit := rfl
@[simp] theorem State.setPI_pmiBit (s : State) (v : Bool) : (s.setPI v).pmiBit = s.pmiBit := rfl
@[simp] theorem State.setPI_rmBit (s : State) (v : Bool) : (s.setPI v).rmBit = s.rmBit := rfl
@[simp] theorem State.setPI_mpeBit (s : State) (v : Bool) : (s.setPI v).mpeBit = s.mpeBit := rfl
@[simp] theorem State.setPI_x (s : State) (v : Bool) : (s.setPI v).x = s.x := rfl
@[simp] theorem State.setDP_pmiBit (s : State) (v : Bool) : (s.setDP v).pmiBit = s.pmiBit := rfl
@[simp] theorem State.setDP_rmBit (s : State) (v : Bool) : (s.setDP v).rmBit = s.rmBit := rfl
@[simp] theorem State.setDP_mpeBit (s : State) (v : Bool) : (s.setDP v).mpeBit = s.mpeBit := rfl
@[simp] theorem State.setDP_x (s : State) (v : Bool) : (s.setDP v).x = s.x := rfl
@[simp] theorem State.setPMI_dpBit (s : State) (v : Bool) : (s.setPMI v).dpBit = s.dpBit := rfl
@[simp] theorem State.setPMI_rmBit (s : State) (v : Bool) : (s.setPMI v).rmBit = s.rmBit := rfl
@[simp] theorem State.setPMI_mpeBit (s : State) (v : Bool) : (s.setPMI v).mpeBit = s.mpeBit := rfl
@[simp] theorem State.setPMI_x (s : State) (v : Bool) : (s.setPMI v).x = s.x := rfl
@[simp] theorem State.setRM_dpBit (s : State) (v : Bool) : (s.setRM v).dpBit = s.dpBit := rfl
@[simp] theorem State.setRM_pmiBit (s : State) (v : Bool) : (s.setRM v).pmiBit = s.pmiBit := rfl
@[simp] theorem State.setRM_mpeBit (s : State) (v : Bool) : (s.setRM v).mpeBit = s.mpeBit := rfl
@[simp] theorem State.setRM_x (s : State) (v : Bool) : (s.setRM v).x = s.x := rfl
@[simp] theorem State.setMPE_dpBit (s : State) (v : Bool) : (s.setMPE v).dpBit = s.dpBit := rfl
@[simp] theorem State.setMPE_pmiBit (s : State) (v : Bool) : (s.setMPE v).pmiBit = s.pmiBit := rfl
@[simp] theorem State.setMPE_rmBit (s : State) (v : Bool) : (s.setMPE v).rmBit = s.rmBit := rfl
@[simp] theorem State.setMPE_x (s : State) (v : Bool) : (s.setMPE v).x = s.x := rfl
@[simp] theorem State.setMask_dpBit (s : State) (v : Word) : (s.setMask v).dpBit = s.dpBit := rfl
@[simp] theorem State.setMask_pmiBit (s : State) (v : Word) : (s.setMask v).pmiBit = s.pmiBit := rfl
@[simp] theorem State.setMask_rmBit (s : State) (v : Word) : (s.setMask v).rmBit = s.rmBit := rfl
@[simp] theorem State.setMask_mpeBit (s : State) (v : Word) : (s.setMask v).mpeBit = s.mpeBit := rfl
@[simp] theorem State.setMask_x (s : State) (v : Word) : (s.setMask v).x = s.x := rfl
@[simp] theorem State.setMask2_dpBit (s : State) (v : Word) : (s.setMask2 v).dpBit = s.dpBit := rfl
@[simp] theorem State.setMask2_pmiBit (s : State) (v : Word) : (s.setMask2 v).pmiBit = s.pmiBit := rfl
@[simp] theorem State.setMask2_rmBit (s : State) (v : Word) : (s.setMask2 v).rmBit = s.rmBit := rfl
@[simp] theorem State.setMask2_mpeBit (s : State) (v : Word) : (s.setMask2 v).mpeBit = s.mpeBit := rfl
@[simp] theorem State.setMask2_x (s : State) (v : Word) : (s.setMask2 v).x = s.x := rfl
@[simp] theorem State.setEnbPending_dpBit (s : State) (v : Bool) : (s.setEnbPending v).dpBit = s.dpBit := rfl
@[simp] theorem State.setEnbPending_pmiBit (s : State) (v : Bool) : (s.setEnbPending v).pmiBit = s.pmiBit := rfl
@[simp] theorem State.setEnbPending_rmBit (s : State) (v : Bool) : (s.setEnbPending v).rmBit = s.rmBit := rfl
@[simp] theorem State.setEnbPending_mpeBit (s : State) (v : Bool) : (s.setEnbPending v).mpeBit = s.mpeBit := rfl
@[simp] theorem State.setEnbPending_x (s : State) (v : Bool) : (s.setEnbPending v).x = s.x := rfl
@[simp] theorem State.setRun_dpBit (s : State) (v : Bool) : (s.setRun v).dpBit = s.dpBit := rfl
@[simp] theorem State.setRun_pmiBit (s : State) (v : Bool) : (s.setRun v).pmiBit = s.pmiBit := rfl
@[simp] theorem State.setRun_rmBit (s : State) (v : Bool) : (s.setRun v).rmBit = s.rmBit := rfl
@[simp] theorem State.setRun_mpeBit (s : State) (v : Bool) : (s.setRun v).mpeBit = s.mpeBit := rfl
@[simp] theorem State.setRun_x (s : State) (v : Bool) : (s.setRun v).x = s.x := rfl
@[simp] theorem State.setMem_dpBit (s : State) (v : Memory) : (s.setMem v).dpBit = s.dpBit := rfl
@[simp] theorem State.setMem_pmiBit (s : State) (v : Memory) : (s.setMem v).pmiBit = s.pmiBit := rfl
@[simp] theorem State.setMem_rmBit (s : State) (v : Memory) : (s.setMem v).rmBit = s.rmBit := rfl
@[simp] theorem State.setMem_mpeBit (s : State) (v : Memory) : (s.setMem v).mpeBit = s.mpeBit := rfl
@[simp] theorem State.setEvents_dpBit (s : State) (v : List IoEvent) : (s.setEvents v).dpBit = s.dpBit := rfl
@[simp] theorem State.setEvents_pmiBit (s : State) (v : List IoEvent) : (s.setEvents v).pmiBit = s.pmiBit := rfl
@[simp] theorem State.setEvents_rmBit (s : State) (v : List IoEvent) : (s.setEvents v).rmBit = s.rmBit := rfl
@[simp] theorem State.setEvents_mpeBit (s : State) (v : List IoEvent) : (s.setEvents v).mpeBit = s.mpeBit := rfl
@[simp] theorem State.setEvents_x (s : State) (v : List IoEvent) : (s.setEvents v).x = s.x := rfl
@[simp] theorem State.setScript_dpBit (s : State) (v : Script) : (s.setScript v).dpBit = s.dpBit := rfl
@[simp] theorem State.setScript_pmiBit (s : State) (v : Script) : (s.setScript v).pmiBit = s.pmiBit := rfl
@[simp] theorem State.setScript_rmBit (s : State) (v : Script) : (s.setScript v).rmBit = s.rmBit := rfl
@[simp] theorem State.setScript_mpeBit (s : State) (v : Script) : (s.setScript v).mpeBit = s.mpeBit := rfl
@[simp] theorem State.setScript_x (s : State) (v : Script) : (s.setScript v).x = s.x := rfl
@[simp] theorem State.setDraws_dpBit (s : State) (v : Nat) : (s.setDraws v).dpBit = s.dpBit := rfl
@[simp] theorem State.setDraws_pmiBit (s : State) (v : Nat) : (s.setDraws v).pmiBit = s.pmiBit := rfl
@[simp] theorem State.setDraws_rmBit (s : State) (v : Nat) : (s.setDraws v).rmBit = s.rmBit := rfl
@[simp] theorem State.setDraws_mpeBit (s : State) (v : Nat) : (s.setDraws v).mpeBit = s.mpeBit := rfl
@[simp] theorem State.setDraws_x (s : State) (v : Nat) : (s.setDraws v).x = s.x := rfl

@[simp] theorem State.setDP_dpBit (s : State) (v : Bool) : (s.setDP v).dpBit = (s.config.hasHsa && v) := rfl
@[simp] theorem State.setPMI_pmiBit (s : State) (v : Bool) :
    (s.setPMI v).pmiBit = (s.config.hasExtendedAddressing && v) := rfl
@[simp] theorem State.setRM_rmBit (s : State) (v : Bool) : (s.setRM v).rmBit = (s.config.hasMemoryLockout && v) := rfl
@[simp] theorem State.setMPE_mpeBit (s : State) (v : Bool) : (s.setMPE v).mpeBit = (s.config.hasMemoryParity && v) := rfl
@[simp] theorem State.setMem_x (s : State) (v : Memory) : (s.setMem v).x = v.readWord 0 := rfl

end Sys2Proof.Machine
end

