-- ==== Sys2Proof/Laws/Ops.lean ====
section
/-! SUPPORT. What each shared operation can do, said once: an inversion lemma for every operation that can stop
(if it answers next, then ...), and the frame of every operation that reads memory or asks the environment. -/

namespace Sys2Proof.Machine

/-! ### Results in sequence -/

@[simp] theorem andThen_next {α β : Type} (v : α) (k : α → Result β) : andThen (.next v) k = k v := rfl
@[simp] theorem andThen_fault {α β : Type} (f : Fault) (k : α → Result β) : andThen (.fault f) k = .fault f := rfl
@[simp] theorem andThen_refused {α β : Type} (q : Refusal) (k : α → Result β) :
    andThen (.refused q) k = .refused q := rfl

/-- A sequence answers next exactly where both its parts do. -/
theorem andThen_eq_next {α β : Type} {r : Result α} {k : α → Result β} {t : β} :
    andThen r k = .next t ↔ ∃ v, r = .next v ∧ k v = .next t := by
  cases r <;> simp [andThen]

/-- An instruction of an option answers next exactly where the option is present and its effect does. -/
theorem needs_eq_next {present : Bool} {o : OptionName} {k : Result State} {t : State} :
    needs present o k = .next t ↔ present = true ∧ k = .next t := by
  cases present <;> simp [needs]

@[simp] theorem needs_true (o : OptionName) (k : Result State) : needs true o k = k := rfl
@[simp] theorem needs_false (o : OptionName) (k : Result State) : needs false o k = .refused (.optionAbsent o) := rfl

/-! ### Addresses -/

theorem State.aw_eq (s : State) : s.aw = 14 ∨ s.aw = 15 := by
  unfold State.aw; split <;> simp

theorem State.aw_le (s : State) : s.aw ≤ 15 := by rcases s.aw_eq with h | h <;> omega

theorem State.aw_of_pmiBit_eq {s t : State} (h : t.pmiBit = s.pmiBit) : t.aw = s.aw := by
  simp [State.aw, h]

theorem wrapAddr_toNat {aw : Nat} (h : aw ≤ 16) (n : Nat) : (wrapAddr aw n).toNat = n % 2 ^ aw := by
  rw [wrapAddr, BitVec.toNat_ofNat]
  exact Nat.mod_eq_of_lt (lt_of_lt_of_le (Nat.mod_lt _ (by positivity)) (Nat.pow_le_pow_right (by omega) h))

/-- Every wrapped address has `aw` bits (R52). -/
theorem wrapAddr_lt {aw : Nat} (h : aw ≤ 16) (n : Nat) : (wrapAddr aw n).toNat < 2 ^ aw := by
  rw [wrapAddr_toNat h]; exact Nat.mod_lt _ (by positivity)

theorem and_3FFF_lt (m : Word) : (m &&& 0x3FFF).toNat < 2 ^ 14 := by
  rw [BitVec.toNat_and]
  exact lt_of_le_of_lt Nat.and_le_right (by decide)

theorem and_7FFF_lt (m : Word) : (m &&& 0x7FFF).toNat < 2 ^ 15 := by
  rw [BitVec.toNat_and]
  exact lt_of_le_of_lt Nat.and_le_right (by decide)

theorem indexedBy_lt {aw : Nat} (h : aw ≤ 16) (t : Bool) {y : Word} (hy : y.toNat < 2 ^ aw) (s : State) :
    (indexedBy aw t y s).toNat < 2 ^ aw := by
  cases t
  · simpa [indexedBy] using hy
  · simpa [indexedBy] using wrapAddr_lt h _

@[simp] theorem indexedBy_false (aw : Nat) (y : Word) (s : State) : indexedBy aw false y s = y := rfl

/-- The first address has `AW` bits (R80). -/
theorem firstAddress_lt (sector : Bool) (d : BitVec 9) (s : State) :
    (firstAddress sector d s).toNat < 2 ^ s.aw := by
  cases sector
  · have hd := d.isLt
    have h14 : 2 ^ 14 ≤ 2 ^ s.aw := Nat.pow_le_pow_right (by omega) (by rcases s.aw_eq with h | h <;> omega)
    simp only [firstAddress, Bool.false_eq_true, if_false, BitVec.toNat_setWidth]
    omega
  · simp only [firstAddress, if_true]
    exact wrapAddr_lt (by have := s.aw_le; omega) _

/-- The word at an address is there exactly where memory is installed (R54, R55). -/
theorem wordAt_eq_next {a v : Word} {s : State} :
    wordAt a s = .next v ↔ a.toNat < s.config.memWords ∧ v = s.mem.readWord a.toNat := by
  unfold wordAt; split <;> simp_all [eq_comm]

theorem wordAt_of_lt {a : Word} {s : State} (h : a.toNat < s.config.memWords) :
    wordAt a s = .next (s.mem.readWord a.toNat) := if_pos h

theorem wordAt_of_not_lt {a : Word} {s : State} (h : ¬a.toNat < s.config.memWords) :
    wordAt a s = .fault (.noMemory a) := if_neg h

/-- A direct reference reads no indirect word, whatever the bound on the loop (R81). -/
@[simp] theorem normalChain_direct (fuel : Nat) (t : Bool) (y : Word) (s : State) :
    normalChain fuel false t y s = .next { ea := indexedBy 14 t y s, path := [] } := by
  cases fuel <;> rfl

/-- A direct reference reads no indirect word, whatever the bound on the loop (R82). -/
@[simp] theorem extendedChain_direct (fuel : Nat) (y : Word) (s : State) :
    extendedChain fuel false y s = .next { ea := y, path := [] } := by
  cases fuel <;> rfl

/-- One level of R81. -/
theorem normalChain_indirect (fuel : Nat) (t : Bool) (y : Word) (s : State) :
    normalChain (fuel + 1) true t y s =
      andThen (wordAt (indexedBy 14 t y s) s) fun m =>
        andThen (normalChain fuel (bit m 1) (bit m 2) (m &&& 0x3FFF) s) fun r =>
          .next { r with path := indexedBy 14 t y s :: r.path } := rfl

/-- One level of R82. -/
theorem extendedChain_indirect (fuel : Nat) (y : Word) (s : State) :
    extendedChain (fuel + 1) true y s =
      andThen (wordAt y s) fun m =>
        andThen (extendedChain fuel (bit m 1) (m &&& 0x7FFF) s) fun r => .next { r with path := y :: r.path } := rfl

theorem normalChain_lt {fuel : Nat} {i t : Bool} {y : Word} {s : State} {r : Located} (hy : y.toNat < 2 ^ 14)
    (h : normalChain fuel i t y s = .next r) : r.ea.toNat < 2 ^ 14 := by
  induction fuel generalizing i t y r with
  | zero =>
    cases i <;> simp [normalChain] at h
    subst h; exact indexedBy_lt (by omega) t hy s
  | succ fuel ih =>
    cases i
    · simp at h; subst h; exact indexedBy_lt (by omega) t hy s
    · rw [normalChain_indirect] at h
      obtain ⟨m, -, h⟩ := andThen_eq_next.1 h
      obtain ⟨q, hq, h⟩ := andThen_eq_next.1 h
      cases h; exact ih (r := q) (and_3FFF_lt m) hq

theorem extendedChain_lt {fuel : Nat} {i : Bool} {y : Word} {s : State} {r : Located} (hy : y.toNat < 2 ^ 15)
    (h : extendedChain fuel i y s = .next r) : r.ea.toNat < 2 ^ 15 := by
  induction fuel generalizing i y r with
  | zero =>
    cases i <;> simp [extendedChain] at h
    subst h; exact hy
  | succ fuel ih =>
    cases i
    · simp at h; subst h; exact hy
    · rw [extendedChain_indirect] at h
      obtain ⟨m, -, h⟩ := andThen_eq_next.1 h
      obtain ⟨q, hq, h⟩ := andThen_eq_next.1 h
      cases h; exact ih (r := q) (and_7FFF_lt m) hq

/-- A resolved address has `AW` bits if the address it starts from has (R52). -/
theorem resolve_lt {i t : Bool} {y : Word} {s : State} {r : Located} (hy : y.toNat < 2 ^ s.aw)
    (h : resolve i t y s = .next r) : r.ea.toNat < 2 ^ s.aw := by
  unfold resolve at h
  cases hp : s.pmiBit <;> simp only [hp, State.aw, Bool.false_eq_true, if_false, if_true] at h hy ⊢
  · exact normalChain_lt hy h
  · obtain ⟨q, hq, h⟩ := andThen_eq_next.1 h
    cases h; exact indexedBy_lt (by omega) t (extendedChain_lt hy hq) s

theorem locateMem_lt {m : MemRef} {s : State} {r : Located} (h : locateMem m s = .next r) :
    r.ea.toNat < 2 ^ s.aw := resolve_lt (firstAddress_lt _ _ s) h

theorem locateX_lt {x : XRef} {s : State} {r : Located} (h : locateX x s = .next r) :
    r.ea.toNat < 2 ^ s.aw := resolve_lt (firstAddress_lt _ _ s) h

/-! ### Answers of the environment and reads of memory: what they leave alone -/

/-- An answer changes the script or the number of draws, nothing else. -/
theorem answer_cases {α : Type} (fixed : List α) (rest : List α → Script) (free : α) (s : State) :
    (∃ v later, fixed = v :: later ∧ answer fixed rest free s = (v, s.setScript (rest later))) ∨
      (fixed = [] ∧ answer fixed rest free s = (free, s.drew)) := by
  cases fixed with
  | nil => exact .inr ⟨rfl, rfl⟩
  | cons v l => exact .inl ⟨v, l, rfl, rfl⟩

@[simp] theorem State.drew_a (s : State) : s.drew.a = s.a := rfl
@[simp] theorem State.drew_b (s : State) : s.drew.b = s.b := rfl
@[simp] theorem State.drew_p (s : State) : s.drew.p = s.p := rfl
@[simp] theorem State.drew_c (s : State) : s.drew.c = s.c := rfl
@[simp] theorem State.drew_sc (s : State) : s.drew.sc = s.sc := rfl
@[simp] theorem State.drew_pi (s : State) : s.drew.pi = s.pi := rfl
@[simp] theorem State.drew_dp (s : State) : s.drew.dp = s.dp := rfl
@[simp] theorem State.drew_pmi (s : State) : s.drew.pmi = s.pmi := rfl
@[simp] theorem State.drew_rm (s : State) : s.drew.rm = s.rm := rfl
@[simp] theorem State.drew_mask (s : State) : s.drew.mask = s.mask := rfl
@[simp] theorem State.drew_mask2 (s : State) : s.drew.mask2 = s.mask2 := rfl
@[simp] theorem State.drew_enbPending (s : State) : s.drew.enbPending = s.enbPending := rfl
@[simp] theorem State.drew_run (s : State) : s.drew.run = s.run := rfl
@[simp] theorem State.drew_switches (s : State) : s.drew.switches = s.switches := rfl
@[simp] theorem State.drew_switchesFixed (s : State) : s.drew.switchesFixed = s.switchesFixed := rfl
@[simp] theorem State.drew_mem (s : State) : s.drew.mem = s.mem := rfl
@[simp] theorem State.drew_events (s : State) : s.drew.events = s.events := rfl
@[simp] theorem State.drew_config (s : State) : s.drew.config = s.config := rfl
@[simp] theorem State.drew_mpe (s : State) : s.drew.mpe = s.mpe := rfl
@[simp] theorem State.drew_draws (s : State) : s.drew.draws = s.draws + 1 := rfl
@[simp] theorem State.drew_script (s : State) : s.drew.script = s.script := rfl

@[simp] theorem answer_a {α : Type} (fixed : List α) (rest : List α → Script) (free : α) (s : State) :
    (answer fixed rest free s).2.a = s.a := by cases fixed <;> rfl
@[simp] theorem answer_b {α : Type} (fixed : List α) (rest : List α → Script) (free : α) (s : State) :
    (answer fixed rest free s).2.b = s.b := by cases fixed <;> rfl
@[simp] theorem answer_p {α : Type} (fixed : List α) (rest : List α → Script) (free : α) (s : State) :
    (answer fixed rest free s).2.p = s.p := by cases fixed <;> rfl
@[simp] theorem answer_c {α : Type} (fixed : List α) (rest : List α → Script) (free : α) (s : State) :
    (answer fixed rest free s).2.c = s.c := by cases fixed <;> rfl
@[simp] theorem answer_sc {α : Type} (fixed : List α) (rest : List α → Script) (free : α) (s : State) :
    (answer fixed rest free s).2.sc = s.sc := by cases fixed <;> rfl
@[simp] theorem answer_pi {α : Type} (fixed : List α) (rest : List α → Script) (free : α) (s : State) :
    (answer fixed rest free s).2.pi = s.pi := by cases fixed <;> rfl
@[simp] theorem answer_dp {α : Type} (fixed : List α) (rest : List α → Script) (free : α) (s : State) :
    (answer fixed rest free s).2.dp = s.dp := by cases fixed <;> rfl
@[simp] theorem answer_pmi {α : Type} (fixed : List α) (rest : List α → Script) (free : α) (s : State) :
    (answer fixed rest free s).2.pmi = s.pmi := by cases fixed <;> rfl
@[simp] theorem answer_rm {α : Type} (fixed : List α) (rest : List α → Script) (free : α) (s : State) :
    (answer fixed rest free s).2.rm = s.rm := by cases fixed <;> rfl
@[simp] theorem answer_mask {α : Type} (fixed : List α) (rest : List α → Script) (free : α) (s : State) :
    (answer fixed rest free s).2.mask = s.mask := by cases fixed <;> rfl
@[simp] theorem answer_mask2 {α : Type} (fixed : List α) (rest : List α → Script) (free : α) (s : State) :
    (answer fixed rest free s).2.mask2 = s.mask2 := by cases fixed <;> rfl
@[simp] theorem answer_enbPending {α : Type} (fixed : List α) (rest : List α → Script) (free : α) (s : State) :
    (answer fixed rest free s).2.enbPending = s.enbPending := by cases fixed <;> rfl
@[simp] theorem answer_run {α : Type} (fixed : List α) (rest : List α → Script) (free : α) (s : State) :
    (answer fixed rest free s).2.run = s.run := by cases fixed <;> rfl
@[simp] theorem answer_switches {α : Type} (fixed : List α) (rest : List α → Script) (free : α) (s : State) :
    (answer fixed rest free s).2.switches = s.switches := by cases fixed <;> rfl
@[simp] theorem answer_switchesFixed {α : Type} (fixed : List α) (rest : List α → Script) (free : α) (s : State) :
    (answer fixed rest free s).2.switchesFixed = s.switchesFixed := by cases fixed <;> rfl
@[simp] theorem answer_mem {α : Type} (fixed : List α) (rest : List α → Script) (free : α) (s : State) :
    (answer fixed rest free s).2.mem = s.mem := by cases fixed <;> rfl
@[simp] theorem answer_events {α : Type} (fixed : List α) (rest : List α → Script) (free : α) (s : State) :
    (answer fixed rest free s).2.events = s.events := by cases fixed <;> rfl
@[simp] theorem answer_config {α : Type} (fixed : List α) (rest : List α → Script) (free : α) (s : State) :
    (answer fixed rest free s).2.config = s.config := by cases fixed <;> rfl
@[simp] theorem answer_mpe {α : Type} (fixed : List α) (rest : List α → Script) (free : α) (s : State) :
    (answer fixed rest free s).2.mpe = s.mpe := by cases fixed <;> rfl

/-- Without the parity option a read leaves the state as it was (R33). -/
theorem afterRead_of_no_parity {s : State} (h : s.config.hasMemoryParity = false) (a : Word) : afterRead a s = s := by
  simp [afterRead, h]

@[simp] theorem afterRead_a (a : Word) (s : State) : (afterRead a s).a = s.a := by
  unfold afterRead askParity; split <;> simp
@[simp] theorem afterRead_b (a : Word) (s : State) : (afterRead a s).b = s.b := by
  unfold afterRead askParity; split <;> simp
@[simp] theorem afterRead_p (a : Word) (s : State) : (afterRead a s).p = s.p := by
  unfold afterRead askParity; split <;> simp
@[simp] theorem afterRead_c (a : Word) (s : State) : (afterRead a s).c = s.c := by
  unfold afterRead askParity; split <;> simp
@[simp] theorem afterRead_sc (a : Word) (s : State) : (afterRead a s).sc = s.sc := by
  unfold afterRead askParity; split <;> simp
@[simp] theorem afterRead_pi (a : Word) (s : State) : (afterRead a s).pi = s.pi := by
  unfold afterRead askParity; split <;> simp
@[simp] theorem afterRead_dp (a : Word) (s : State) : (afterRead a s).dp = s.dp := by
  unfold afterRead askParity; split <;> simp
@[simp] theorem afterRead_pmi (a : Word) (s : State) : (afterRead a s).pmi = s.pmi := by
  unfold afterRead askParity; split <;> simp
@[simp] theorem afterRead_rm (a : Word) (s : State) : (afterRead a s).rm = s.rm := by
  unfold afterRead askParity; split <;> simp
@[simp] theorem afterRead_mask (a : Word) (s : State) : (afterRead a s).mask = s.mask := by
  unfold afterRead askParity; split <;> simp
@[simp] theorem afterRead_mask2 (a : Word) (s : State) : (afterRead a s).mask2 = s.mask2 := by
  unfold afterRead askParity; split <;> simp
@[simp] theorem afterRead_enbPending (a : Word) (s : State) : (afterRead a s).enbPending = s.enbPending := by
  unfold afterRead askParity; split <;> simp
@[simp] theorem afterRead_run (a : Word) (s : State) : (afterRead a s).run = s.run := by
  unfold afterRead askParity; split <;> simp
@[simp] theorem afterRead_switches (a : Word) (s : State) : (afterRead a s).switches = s.switches := by
  unfold afterRead askParity; split <;> simp
@[simp] theorem afterRead_switchesFixed (a : Word) (s : State) : (afterRead a s).switchesFixed = s.switchesFixed := by
  unfold afterRead askParity; split <;> simp
@[simp] theorem afterRead_mem (a : Word) (s : State) : (afterRead a s).mem = s.mem := by
  unfold afterRead askParity; split <;> simp
@[simp] theorem afterRead_events (a : Word) (s : State) : (afterRead a s).events = s.events := by
  unfold afterRead askParity; split <;> simp
@[simp] theorem afterRead_config (a : Word) (s : State) : (afterRead a s).config = s.config := by
  unfold afterRead askParity; split <;> simp

@[simp] theorem afterReads_nil (s : State) : afterReads [] s = s := rfl
@[simp] theorem afterReads_cons (a : Word) (l : List Word) (s : State) :
    afterReads (a :: l) s = afterReads l (afterRead a s) := rfl

/-- Without the parity option any number of reads leave the state as it was (R33). -/
theorem afterReads_of_no_parity {s : State} (h : s.config.hasMemoryParity = false) (l : List Word) :
    afterReads l s = s := by
  induction l with
  | nil => rfl
  | cons a l ih => rw [afterReads_cons, afterRead_of_no_parity h, ih]

@[simp] theorem afterReads_a (l : List Word) (s : State) : (afterReads l s).a = s.a := by
  induction l generalizing s with
  | nil => rfl
  | cons a l ih => rw [afterReads_cons, ih, afterRead_a]
@[simp] theorem afterReads_b (l : List Word) (s : State) : (afterReads l s).b = s.b := by
  induction l generalizing s with
  | nil => rfl
  | cons a l ih => rw [afterReads_cons, ih, afterRead_b]
@[simp] theorem afterReads_p (l : List Word) (s : State) : (afterReads l s).p = s.p := by
  induction l generalizing s with
  | nil => rfl
  | cons a l ih => rw [afterReads_cons, ih, afterRead_p]
@[simp] theorem afterReads_c (l : List Word) (s : State) : (afterReads l s).c = s.c := by
  induction l generalizing s with
  | nil => rfl
  | cons a l ih => rw [afterReads_cons, ih, afterRead_c]
@[simp] theorem afterReads_sc (l : List Word) (s : State) : (afterReads l s).sc = s.sc := by
  induction l generalizing s with
  | nil => rfl
  | cons a l ih => rw [afterReads_cons, ih, afterRead_sc]
@[simp] theorem afterReads_pi (l : List Word) (s : State) : (afterReads l s).pi = s.pi := by
  induction l generalizing s with
  | nil => rfl
  | cons a l ih => rw [afterReads_cons, ih, afterRead_pi]
@[simp] theorem afterReads_dp (l : List Word) (s : State) : (afterReads l s).dp = s.dp := by
  induction l generalizing s with
  | nil => rfl
  | cons a l ih => rw [afterReads_cons, ih, afterRead_dp]
@[simp] theorem afterReads_pmi (l : List Word) (s : State) : (afterReads l s).pmi = s.pmi := by
  induction l generalizing s with
  | nil => rfl
  | cons a l ih => rw [afterReads_cons, ih, afterRead_pmi]
@[simp] theorem afterReads_rm (l : List Word) (s : State) : (afterReads l s).rm = s.rm := by
  induction l generalizing s with
  | nil => rfl
  | cons a l ih => rw [afterReads_cons, ih, afterRead_rm]
@[simp] theorem afterReads_mask (l : List Word) (s : State) : (afterReads l s).mask = s.mask := by
  induction l generalizing s with
  | nil => rfl
  | cons a l ih => rw [afterReads_cons, ih, afterRead_mask]
@[simp] theorem afterReads_mask2 (l : List Word) (s : State) : (afterReads l s).mask2 = s.mask2 := by
  induction l generalizing s with
  | nil => rfl
  | cons a l ih => rw [afterReads_cons, ih, afterRead_mask2]
@[simp] theorem afterReads_enbPending (l : List Word) (s : State) : (afterReads l s).enbPending = s.enbPending := by
  induction l generalizing s with
  | nil => rfl
  | cons a l ih => rw [afterReads_cons, ih, afterRead_enbPending]
@[simp] theorem afterReads_run (l : List Word) (s : State) : (afterReads l s).run = s.run := by
  induction l generalizing s with
  | nil => rfl
  | cons a l ih => rw [afterReads_cons, ih, afterRead_run]
@[simp] theorem afterReads_switches (l : List Word) (s : State) : (afterReads l s).switches = s.switches := by
  induction l generalizing s with
  | nil => rfl
  | cons a l ih => rw [afterReads_cons, ih, afterRead_switches]
@[simp] theorem afterReads_switchesFixed (l : List Word) (s : State) : (afterReads l s).switchesFixed = s.switchesFixed := by
  induction l generalizing s with
  | nil => rfl
  | cons a l ih => rw [afterReads_cons, ih, afterRead_switchesFixed]
@[simp] theorem afterReads_mem (l : List Word) (s : State) : (afterReads l s).mem = s.mem := by
  induction l generalizing s with
  | nil => rfl
  | cons a l ih => rw [afterReads_cons, ih, afterRead_mem]
@[simp] theorem afterReads_events (l : List Word) (s : State) : (afterReads l s).events = s.events := by
  induction l generalizing s with
  | nil => rfl
  | cons a l ih => rw [afterReads_cons, ih, afterRead_events]
@[simp] theorem afterReads_config (l : List Word) (s : State) : (afterReads l s).config = s.config := by
  induction l generalizing s with
  | nil => rfl
  | cons a l ih => rw [afterReads_cons, ih, afterRead_config]

@[simp] theorem afterRead_dpBit (a : Word) (s : State) : (afterRead a s).dpBit = s.dpBit := by simp [State.dpBit]
@[simp] theorem afterRead_pmiBit (a : Word) (s : State) : (afterRead a s).pmiBit = s.pmiBit := by simp [State.pmiBit]
@[simp] theorem afterRead_rmBit (a : Word) (s : State) : (afterRead a s).rmBit = s.rmBit := by simp [State.rmBit]
@[simp] theorem afterRead_x (a : Word) (s : State) : (afterRead a s).x = s.x := by simp [State.x]
@[simp] theorem afterRead_aw (a : Word) (s : State) : (afterRead a s).aw = s.aw := by simp [State.aw]
@[simp] theorem afterReads_dpBit (l : List Word) (s : State) : (afterReads l s).dpBit = s.dpBit := by simp [State.dpBit]
@[simp] theorem afterReads_pmiBit (l : List Word) (s : State) : (afterReads l s).pmiBit = s.pmiBit := by simp [State.pmiBit]
@[simp] theorem afterReads_rmBit (l : List Word) (s : State) : (afterReads l s).rmBit = s.rmBit := by simp [State.rmBit]
@[simp] theorem afterReads_x (l : List Word) (s : State) : (afterReads l s).x = s.x := by simp [State.x]
@[simp] theorem afterReads_aw (l : List Word) (s : State) : (afterReads l s).aw = s.aw := by simp [State.aw]

/-- Reads change MPE, the script and the number of draws, nothing else. -/
theorem afterReads_frame (l : List Word) (s : State) :
    afterReads l s =
      { s with mpe := (afterReads l s).mpe, script := (afterReads l s).script, draws := (afterReads l s).draws } := by
  exact State.ext (by simp) (by simp) (by simp) (by simp) (by simp) (by simp) (by simp) (by simp) (by simp) rfl (by simp)
    (by simp) (by simp) (by simp) (by simp) (by simp) (by simp) (by simp) rfl rfl (by simp)

/-! ### Memory operations -/

/-- A store answers next exactly outside restricted mode and at an installed address; then it changes that word of
memory and nothing else (R54, R56). -/
theorem memWrite_eq_next {a v : Word} {s t : State} :
    memWrite a v s = .next t ↔
      s.rmBit = false ∧ a.toNat < s.config.memWords ∧ t = s.setMem (s.mem.writeWord a.toNat v) := by
  unfold memWrite
  split_ifs with hr ha
  · simp [hr]
  · simp only [Host.Outcome.next.injEq, Bool.not_eq_true] at *
    exact ⟨fun h => ⟨hr, ha, h.symm⟩, fun h => h.2.2.symm⟩
  · simp [ha]

theorem memWrite_of_installed {a v : Word} {s : State} (hr : s.rmBit = false) (ha : a.toNat < s.config.memWords) :
    memWrite a v s = .next (s.setMem (s.mem.writeWord a.toNat v)) := memWrite_eq_next.2 ⟨hr, ha, rfl⟩

/-- What an instruction that only uses its effective address does. -/
theorem withAddress_eq_next {place : Result Located} {s t : State} {k : Word → State → Result State} :
    withAddress place s k = .next t ↔ ∃ r, place = .next r ∧ k r.ea (afterReads r.path s) = .next t :=
  andThen_eq_next

/-- What an instruction that reads its operand does. -/
theorem withOperand_eq_next {place : Result Located} {s t : State} {k : Word → Word → State → Result State} :
    withOperand place s k = .next t ↔
      ∃ r, place = .next r ∧ r.ea.toNat < s.config.memWords ∧
        k r.ea (s.mem.readWord r.ea.toNat) (afterReads (r.path ++ [r.ea]) s) = .next t := by
  simp only [withOperand, andThen_eq_next, wordAt_eq_next]
  constructor
  · rintro ⟨r, hr, v, ⟨ha, rfl⟩, hk⟩; exact ⟨r, hr, ha, hk⟩
  · rintro ⟨r, hr, ha, hk⟩; exact ⟨r, hr, _, ⟨ha, rfl⟩, hk⟩

/-- What an instruction that reads a double-word operand does. -/
theorem withDouble_eq_next {place : Result Located} {s t : State} {k : Word → Word → State → Result State} :
    withDouble place s k = .next t ↔
      ∃ r, place = .next r ∧ r.ea.toNat < s.config.memWords ∧ (secondAddress r.ea s).toNat < s.config.memWords ∧
        k (s.mem.readWord r.ea.toNat) (s.mem.readWord (secondAddress r.ea s).toNat)
          (afterReads (r.path ++ [r.ea, secondAddress r.ea s]) s) = .next t := by
  simp only [withDouble, andThen_eq_next, wordAt_eq_next]
  constructor
  · rintro ⟨r, hr, v, ⟨ha, rfl⟩, w, ⟨hb, rfl⟩, hk⟩; exact ⟨r, hr, ha, hb, hk⟩
  · rintro ⟨r, hr, ha, hb, hk⟩; exact ⟨r, hr, _, ⟨ha, rfl⟩, _, ⟨hb, rfl⟩, hk⟩

/-- What a jump to an effective address does (R181). -/
theorem jumpTo_eq_next {place : Result Located} {s t : State} :
    jumpTo place s = .next t ↔ ∃ r, place = .next r ∧ t = (afterReads r.path s).setP r.ea := by
  simp only [jumpTo, withAddress_eq_next, Host.Outcome.next.injEq]
  exact exists_congr fun r => and_congr_right fun _ => eq_comm

/-- What a jump-and-store does (R182, R274): the link is written at the effective address, P is the word after. -/
theorem jumpAndStore_eq_next {place : Result Located} {s t : State} :
    jumpAndStore place s = .next t ↔
      ∃ r, place = .next r ∧ r.ea.toNat < s.config.memWords ∧ s.rmBit = false ∧
        t = ((afterReads (r.path ++ [r.ea]) s).setMem
              (s.mem.writeWord r.ea.toNat (linkWord s.pmiBit (s.mem.readWord r.ea.toNat) s.p))).setP
            (wrapAddr s.aw (r.ea.toNat + 1)) := by
  simp only [jumpAndStore, withOperand_eq_next, andThen_eq_next, memWrite_eq_next]
  constructor
  · rintro ⟨r, hr, ha, u, ⟨hrm, -, rfl⟩, ht⟩
    refine ⟨r, hr, ha, by simpa using hrm, ?_⟩
    cases ht; simp [State.aw]
  · rintro ⟨r, hr, ha, hrm, rfl⟩
    exact ⟨r, hr, ha, _, ⟨by simpa using hrm, by simpa using ha, rfl⟩, by simp [State.aw]⟩

/-! ### The program counter -/

/-- A conditional skip changes P alone (R198). -/
theorem skipIf_eq (c : Bool) (s : State) :
    skipIf c s = s.setP (if c then wrapAddr s.aw (s.p.toNat + 1) else s.p) := by
  cases c <;> rfl

/-! ### Interrupts and the fetch -/

/-- No interrupt is due, and nothing is asked, while PI is 0 or an ENB has just been executed (R39, R273). -/
theorem interruptDue_of_disabled {s : State} (h : s.pi = false ∨ s.enbPending = true) : interruptDue s = (false, s) := by
  unfold interruptDue; rcases h with h | h <;> simp [h]

/-- An interrupt is due only with RUN and PI set and no ENB pending (R273). -/
theorem interruptDue_true {s : State} (h : (interruptDue s).1 = true) :
    s.run = true ∧ s.pi = true ∧ s.enbPending = false ∧ interruptDue s = askInterrupt s := by
  unfold interruptDue at h ⊢
  cases hr : s.run <;> cases hp : s.pi <;> cases he : s.enbPending <;> simp_all

/-- Taking an interrupt that answers next is an entry, on a machine without extended addressing (R274). -/
theorem takeInterrupt_eq_next {s t : State} :
    takeInterrupt s = .next t ↔ s.config.hasExtendedAddressing = false ∧ interruptEntry s = .next t := by
  unfold takeInterrupt; split_ifs <;> simp_all

end Sys2Proof.Machine
end

