-- ==== Sys2Proof/Laws/Environment.lean ====
section
/-! SUPPORT. Whatever the environment is asked, only the script and the number of draws can differ afterwards; a draw
differs in the number of draws alone. -/

namespace Sys2Proof.Machine

theorem answer_frame {α : Type} (fixed : List α) (rest : List α → Script) (free : α) (s : State) :
    ∃ k n, (answer fixed rest free s).2 = (s.setScript k).setDraws n := by
  rcases answer_cases fixed rest free s with ⟨v, l, -, h⟩ | ⟨-, h⟩
  · exact ⟨rest l, s.draws, by rw [h]; rfl⟩
  · exact ⟨s.script, s.draws + 1, by rw [h]; rfl⟩

theorem askSense_frame (f : BitVec 4) (d : BitVec 6) (s : State) :
    ∃ k n, (askSense f d s).2 = (s.setScript k).setDraws n := by
  unfold askSense; split
  · exact ⟨s.script, s.draws, rfl⟩
  · exact answer_frame ..

theorem askInput_frame (f : BitVec 4) (d : BitVec 6) (s : State) :
    ∃ k n, (askInput f d s).2 = (s.setScript k).setDraws n := by
  unfold askInput; split
  · exact ⟨s.script, s.draws + 1, rfl⟩
  · exact answer_frame ..

theorem askOutput_frame (f : BitVec 4) (d : BitVec 6) (v : Word) (s : State) :
    ∃ k n, (askOutput f d v s).2 = (s.setScript k).setDraws n := by
  unfold askOutput; split
  · exact ⟨s.script, s.draws, rfl⟩
  · exact answer_frame ..

theorem askInterrupt_frame (s : State) : ∃ k n, (askInterrupt s).2 = (s.setScript k).setDraws n := answer_frame ..

theorem askParity_frame (a : Word) (s : State) : ∃ k n, (askParity a s).2 = (s.setScript k).setDraws n :=
  answer_frame ..

theorem askSwitches_frame (s : State) : ∃ n, (askSwitches s).2 = s.setDraws n := by
  unfold askSwitches; split
  · exact ⟨s.draws, rfl⟩
  · exact ⟨s.draws + 1, rfl⟩

theorem interruptDue_frame (s : State) : ∃ k n, (interruptDue s).2 = (s.setScript k).setDraws n := by
  unfold interruptDue; split
  · exact askInterrupt_frame s
  · exact ⟨s.script, s.draws, rfl⟩

@[simp] theorem drawWord_snd (s : State) : (drawWord s).2 = s.drew := rfl
@[simp] theorem drawBit_snd (s : State) : (drawBit s).2 = s.drew := rfl
@[simp] theorem drawShiftCount_snd (s : State) : (drawShiftCount s).2 = s.drew := rfl

/-- Recording a call changes the history alone, at its end (R240). -/
theorem record_events (e : IoEvent) (s : State) : (record e s).events = s.events ++ [e] := rfl

end Sys2Proof.Machine
end

