-- ==== Sys2Proof/Laws/Arithmetic.lean ====
section
/-! SUPPORT. What multiply, divide and normalise can do, said once for each value of their parameters. -/

namespace Sys2Proof.Machine

/-- Division by zero is improper whatever `DIV_FN` says (R138). -/
@[simp] theorem divOutcome_zero (f : DivFn) (u : BitVec 31) : divOutcome f u 0#16 = .improper := rfl

@[simp] theorem givenOutcome_none : givenOutcome none = .improper := rfl
@[simp] theorem givenOutcome_some (q r : Int) : givenOutcome (some (q, r)) = .proper q r := rfl

/-- Operands that `DIV_FN` does not answer apart divide by its rounding (R139). -/
theorem divOutcome_rounded {f : DivFn} {u : BitVec 31} {v : Word} (hv : v ≠ 0)
    (h : f.exceptions.find? (fun e => e.dividend == u && e.divisor == v) = none) :
    divOutcome f u v = quotientOutcome (roundedQuotient f.rounding (s31 u) (s16 v))
      (s31 u - roundedQuotient f.rounding (s31 u) (s16 v) * s16 v) := by
  rw [divOutcome, if_neg hv, h]

/-- Operands that `DIV_FN` answers apart divide as it says. -/
theorem divOutcome_exception {f : DivFn} {u : BitVec 31} {v : Word} {e : DivEntry} (hv : v ≠ 0)
    (h : f.exceptions.find? (fun e => e.dividend == u && e.divisor == v) = some e) :
    divOutcome f u v = givenOutcome e.result := by
  rw [divOutcome, if_neg hv, h]

/-- An improper divide draws two words for A and B and sets C (R138). -/
theorem improperDivide_eq (s : State) :
    improperDivide s = (((s.setDraws (s.draws + 2)).setA (Config.freeWord s.draws)).setB
      (Config.freeWord (s.draws + 1))).setC true := rfl

/-- The product of the two least numbers, where `MPY_MIN_MIN` leaves it free (R137). -/
theorem leastProduct_draws {s : State} (h : s.config.mpyMinMin = .draws) :
    leastProduct s = (((s.setDraws (s.draws + 3)).setA (Config.freeWord s.draws)).setB
      (Config.freeWord (s.draws + 1))).setC (Config.freeBit (s.draws + 2)) := by
  rw [leastProduct, h]; rfl

/-- The product of the two least numbers, where `MPY_MIN_MIN` gives it. -/
theorem leastProduct_values {s : State} {a b : Word} {c : Option Bool} (h : s.config.mpyMinMin = .values a b c) :
    leastProduct s = ((s.setA a).setB b).setC (c.getD s.c) := by
  rw [leastProduct, h]

/-- What NRM leaves in C is drawn, or is no draw. -/
theorem nrmCarry_frame (f : NrmCarry) (s : State) : ∃ n, (nrmCarry f s).2 = s.setDraws n := by
  cases f
  · exact ⟨s.draws + 1, rfl⟩
  · exact ⟨s.draws, rfl⟩
  · exact ⟨s.draws, rfl⟩

/-- Normalise writes A, B, SC and C, and may draw (R176). -/
theorem normalised_frame (limit : Nat) (s : State) :
    ∃ n, normalised limit s =
      ((((s.setDraws n).setA (normalise limit { a := s.a, b := s.b, c := s.c }).1.a).setB
        (normalise limit { a := s.a, b := s.b, c := s.c }).1.b).setSC
        (nrmShiftCount s.config.nrmFn.count (normalise limit { a := s.a, b := s.b, c := s.c }).2)).setC
        (nrmCarry s.config.nrmFn.carry s).1 := by
  obtain ⟨n, h⟩ := nrmCarry_frame s.config.nrmFn.carry s
  exact ⟨n, by simp only [normalised, h]⟩

end Sys2Proof.Machine
end

