-- ==== Sys2Proof/Laws/Launch.lean ====
section
/-! SUPPORT. The loader and the launch: what a loaded image leaves in memory, and each field of a launch's state. -/

namespace Sys2Proof.Machine

@[simp] theorem loadImage_nil (words : Nat) (m : Memory) : loadImage words [] m = m := rfl

@[simp] theorem loadImage_cons (words : Nat) (a v : Word) (image : List (Word × Word)) (m : Memory) :
    loadImage words ((a, v) :: image) m =
      loadImage words image (if a.toNat < words then m.writeWord a.toNat v else m) := rfl

/-- Loading keeps the canonical form. -/
theorem loadImage_wf (words : Nat) (image : List (Word × Word)) {m : Memory} (h : m.wf) :
    (loadImage words image m).wf := by
  induction image generalizing m with
  | nil => exact h
  | cons c image ih =>
    rw [loadImage_cons]
    split
    · exact ih (Memory.wf_writeWord _ _ h)
    · exact ih h

/-- Loading fills installed words alone (R54, R291). -/
theorem loadImage_within {words : Nat} (image : List (Word × Word)) {m : Memory} (h : m.within words) :
    (loadImage words image m).within words := by
  induction image generalizing m with
  | nil => exact h
  | cons c image ih =>
    rw [loadImage_cons]
    split
    · exact ih (Memory.within_writeWord _ h ‹_›)
    · exact ih h

/-- A word whose address the image does not name is as it was before the load. -/
theorem readWord_loadImage_of_not_mem (words : Nat) {image : List (Word × Word)} {k : Word} (m : Memory)
    (h : k ∉ image.map Prod.fst) : (loadImage words image m).readWord k.toNat = m.readWord k.toNat := by
  induction image generalizing m with
  | nil => rfl
  | cons c image ih =>
    simp only [List.map_cons, List.mem_cons, not_or] at h
    rw [loadImage_cons, ih _ h.2]
    split
    · rw [Memory.readWord_writeWord, if_neg fun e => h.1 (BitVec.eq_of_toNat_eq e)]
    · rfl

section
variable (l : Launch)

@[simp] theorem Launch.state_a : l.state.a = l.a.getD State.reset.a := rfl
@[simp] theorem Launch.state_b : l.state.b = l.b.getD State.reset.b := rfl
@[simp] theorem Launch.state_p : l.state.p = l.parameters.startAddress := rfl
@[simp] theorem Launch.state_c : l.state.c = l.c.getD State.reset.c := rfl
@[simp] theorem Launch.state_sc : l.state.sc = l.sc.getD State.reset.sc := rfl
@[simp] theorem Launch.state_pi : l.state.pi = l.pi.getD State.reset.pi := rfl
@[simp] theorem Launch.state_dp : l.state.dp = l.dp.getD State.reset.dp := rfl
@[simp] theorem Launch.state_pmi : l.state.pmi = l.pmi.getD State.reset.pmi := rfl
@[simp] theorem Launch.state_rm : l.state.rm = l.rm.getD State.reset.rm := rfl
@[simp] theorem Launch.state_mpe : l.state.mpe = l.mpe.getD State.reset.mpe := rfl
@[simp] theorem Launch.state_mask : l.state.mask = l.mask.getD State.reset.mask := rfl
@[simp] theorem Launch.state_mask2 : l.state.mask2 = l.mask2.getD State.reset.mask2 := rfl
@[simp] theorem Launch.state_enbPending : l.state.enbPending = State.reset.enbPending := rfl
@[simp] theorem Launch.state_run : l.state.run = State.reset.run := rfl
@[simp] theorem Launch.state_switches : l.state.switches = l.switches.getD State.reset.switches := rfl
@[simp] theorem Launch.state_switchesFixed : l.state.switchesFixed = l.switches.isSome := rfl
@[simp] theorem Launch.state_mem : l.state.mem = loadImage l.parameters.memWords l.image [] := rfl
@[simp] theorem Launch.state_events : l.state.events = State.reset.events := rfl
@[simp] theorem Launch.state_script : l.state.script = l.script := rfl
@[simp] theorem Launch.state_draws : l.state.draws = State.reset.draws := rfl
@[simp] theorem Launch.state_config : l.state.config = l.parameters := rfl

end

end Sys2Proof.Machine
end

