-- ==== Sys2Proof/Laws/PerInstr.lean ====
section
/-! SUPPORT. One lemma per instruction: its encoded word fits its row of spec/opcode_table.json. -/

namespace Sys2Proof.Laws

theorem mrWord_masked (op : BitVec 4) (m : MemRef) : mrWord op m &&& 0x3C00 = op.setWidth 16 <<< 10 := by
  ext i hi
  simp only [mrWord, BitVec.getElem_and, BitVec.getElem_append, BitVec.getElem_shiftLeft]
  interval_cases i <;> simp

theorem xrWord_masked (t : Bool) (x : XRef) :
    xrWord t x &&& 0x7C00 = (BitVec.ofBool t ++ (0o15 : BitVec 4)).setWidth 16 <<< 10 := by
  ext i hi
  simp only [xrWord, BitVec.getElem_and, BitVec.getElem_append, BitVec.getElem_shiftLeft]
  interval_cases i <;> cases t <;> simp

theorem shWord_masked (left aAlone : Bool) (k : BitVec 2) (nf : BitVec 6) :
    shWord left aAlone k nf &&& 0xFFC0 =
      (((0b010000 : BitVec 6) ++ BitVec.ofBool left ++ BitVec.ofBool aAlone ++ k : BitVec 10).setWidth 16) <<< 6 := by
  ext i hi
  simp only [shWord, BitVec.getElem_and, BitVec.getElem_append, BitVec.getElem_shiftLeft]
  interval_cases i <;> simp <;> (clear hi nf; revert left aAlone k; decide)

theorem ioWord_masked (hi2 : BitVec 2) (code : IoCode) : ioWord hi2 code &&& 0xFC00 = hi2 ++ 0x3000#14 := by
  ext i hi
  simp only [ioWord, BitVec.getElem_and, BitVec.getElem_append]
  interval_cases i <;> simp

/-- The match and the mask of the instruction's row in spec/opcode_table.json. -/
def tableRow : Instr → Word × Word
  | .jmp _ => (0x0400, 0x3C00)
  | .lda _ => (0x0800, 0x3C00)
  | .dld _ => (0x0800, 0x3C00)
  | .ana _ => (0x0C00, 0x3C00)
  | .sta _ => (0x1000, 0x3C00)
  | .dst _ => (0x1000, 0x3C00)
  | .era _ => (0x1400, 0x3C00)
  | .add _ => (0x1800, 0x3C00)
  | .dad _ => (0x1800, 0x3C00)
  | .sub _ => (0x1C00, 0x3C00)
  | .dsb _ => (0x1C00, 0x3C00)
  | .jst _ => (0x2000, 0x3C00)
  | .cas _ => (0x2400, 0x3C00)
  | .irs _ => (0x2800, 0x3C00)
  | .ima _ => (0x2C00, 0x3C00)
  | .stx _ => (0x3400, 0x7C00)
  | .ldx _ => (0x7400, 0x7C00)
  | .mpy _ => (0x3800, 0x3C00)
  | .div _ => (0x3C00, 0x3C00)
  | .ocp _ => (0x3000, 0xFC00)
  | .sks _ => (0x7000, 0xFC00)
  | .ina _ => (0xB000, 0xFC00)
  | .ota _ => (0xF000, 0xFC00)
  | .smk _ => (0xF010, 0xFFFB)
  | .otk => (0xF210, 0xFFFF)
  | .lrl _ => (0x4000, 0xFFC0)
  | .lrs _ => (0x4040, 0xFFC0)
  | .lrr _ => (0x4080, 0xFFC0)
  | .lgr _ => (0x4100, 0xFFC0)
  | .ars _ => (0x4140, 0xFFC0)
  | .arr _ => (0x4180, 0xFFC0)
  | .lll _ => (0x4200, 0xFFC0)
  | .lls _ => (0x4240, 0xFFC0)
  | .llr _ => (0x4280, 0xFFC0)
  | .lgl _ => (0x4300, 0xFFC0)
  | .als _ => (0x4340, 0xFFC0)
  | .alr _ => (0x4380, 0xFFC0)
  | .hlt => (0x0000, 0xFFFF)
  | .sgl => (0x0005, 0xFFFF)
  | .dbl => (0x0007, 0xFFFF)
  | .dxa => (0x0009, 0xFFFF)
  | .exa => (0x000B, 0xFFFF)
  | .rmp => (0x0011, 0xFFFF)
  | .sca => (0x0021, 0xFFFF)
  | .ink => (0x0023, 0xFFFF)
  | .nrm => (0x0041, 0xFFFF)
  | .iab => (0x0081, 0xFFFF)
  | .enb => (0x0101, 0xFFFF)
  | .inh => (0x0201, 0xFFFF)
  | .erm => (0x0301, 0xFFFF)
  | .chs => (0xC014, 0xFFFF)
  | .cra => (0xC020, 0xFFFF)
  | .ssp => (0xC040, 0xFFFF)
  | .rcb => (0xC080, 0xFFFF)
  | .csa => (0xC0D0, 0xFFFF)
  | .cma => (0xC101, 0xFFFF)
  | .tca => (0xC107, 0xFFFF)
  | .ssm => (0xC140, 0xFFFF)
  | .scb => (0xC180, 0xFFFF)
  | .car => (0xC224, 0xFFFF)
  | .cal => (0xC228, 0xFFFF)
  | .icl => (0xC260, 0xFFFF)
  | .aoa => (0xC286, 0xFFFF)
  | .aca => (0xC28E, 0xFFFF)
  | .icr => (0xC2A0, 0xFFFF)
  | .ica => (0xC2E0, 0xFFFF)
  | .skp => (0x8000, 0xFFFF)
  | .nop => (0x8200, 0xFFFF)
  | .spl => (0x8100, 0xFFFF)
  | .smi => (0x8300, 0xFFFF)
  | .sze => (0x8020, 0xFFFF)
  | .snz => (0x8220, 0xFFFF)
  | .slz => (0x8040, 0xFFFF)
  | .sln => (0x8240, 0xFFFF)
  | .src => (0x8001, 0xFFFF)
  | .ssc => (0x8201, 0xFFFF)
  | .sr1 => (0x8010, 0xFFFF)
  | .sr2 => (0x8008, 0xFFFF)
  | .sr3 => (0x8004, 0xFFFF)
  | .sr4 => (0x8002, 0xFFFF)
  | .ssr => (0x801E, 0xFFFF)
  | .ss1 => (0x8210, 0xFFFF)
  | .ss2 => (0x8208, 0xFFFF)
  | .ss3 => (0x8204, 0xFFFF)
  | .ss4 => (0x8202, 0xFFFF)
  | .sss => (0x821E, 0xFFFF)
  | .spn => (0x8080, 0xFFFF)
  | .sps => (0x8280, 0xFFFF)

/-- The encoded word has the fixed bits of the instruction's row. -/
def EncodesItsRow.Statement (i : Instr) : Prop := encode i &&& (tableRow i).2 = (tableRow i).1

theorem EncodesItsRow.jmp (m : MemRef) : EncodesItsRow.Statement (.jmp m) := mrWord_masked _ _
theorem EncodesItsRow.lda (m : MemRef) : EncodesItsRow.Statement (.lda m) := mrWord_masked _ _
theorem EncodesItsRow.dld (m : MemRef) : EncodesItsRow.Statement (.dld m) := mrWord_masked _ _
theorem EncodesItsRow.ana (m : MemRef) : EncodesItsRow.Statement (.ana m) := mrWord_masked _ _
theorem EncodesItsRow.sta (m : MemRef) : EncodesItsRow.Statement (.sta m) := mrWord_masked _ _
theorem EncodesItsRow.dst (m : MemRef) : EncodesItsRow.Statement (.dst m) := mrWord_masked _ _
theorem EncodesItsRow.era (m : MemRef) : EncodesItsRow.Statement (.era m) := mrWord_masked _ _
theorem EncodesItsRow.add (m : MemRef) : EncodesItsRow.Statement (.add m) := mrWord_masked _ _
theorem EncodesItsRow.dad (m : MemRef) : EncodesItsRow.Statement (.dad m) := mrWord_masked _ _
theorem EncodesItsRow.sub (m : MemRef) : EncodesItsRow.Statement (.sub m) := mrWord_masked _ _
theorem EncodesItsRow.dsb (m : MemRef) : EncodesItsRow.Statement (.dsb m) := mrWord_masked _ _
theorem EncodesItsRow.jst (m : MemRef) : EncodesItsRow.Statement (.jst m) := mrWord_masked _ _
theorem EncodesItsRow.cas (m : MemRef) : EncodesItsRow.Statement (.cas m) := mrWord_masked _ _
theorem EncodesItsRow.irs (m : MemRef) : EncodesItsRow.Statement (.irs m) := mrWord_masked _ _
theorem EncodesItsRow.ima (m : MemRef) : EncodesItsRow.Statement (.ima m) := mrWord_masked _ _
theorem EncodesItsRow.stx (x : XRef) : EncodesItsRow.Statement (.stx x) := xrWord_masked _ _
theorem EncodesItsRow.ldx (x : XRef) : EncodesItsRow.Statement (.ldx x) := xrWord_masked _ _
theorem EncodesItsRow.mpy (m : MemRef) : EncodesItsRow.Statement (.mpy m) := mrWord_masked _ _
theorem EncodesItsRow.div (m : MemRef) : EncodesItsRow.Statement (.div m) := mrWord_masked _ _
theorem EncodesItsRow.ocp (code : IoCode) : EncodesItsRow.Statement (.ocp code) := ioWord_masked _ _
theorem EncodesItsRow.sks (code : IoCode) : EncodesItsRow.Statement (.sks code) := ioWord_masked _ _
theorem EncodesItsRow.ina (code : IoCode) : EncodesItsRow.Statement (.ina code) := ioWord_masked _ _
theorem EncodesItsRow.ota (code : IoCode) : EncodesItsRow.Statement (.ota code) := ioWord_masked _ _
theorem EncodesItsRow.smk (group : MaskGroup) : EncodesItsRow.Statement (.smk group) := by cases group <;> rfl
theorem EncodesItsRow.otk : EncodesItsRow.Statement .otk := rfl
theorem EncodesItsRow.lrl (nf : BitVec 6) : EncodesItsRow.Statement (.lrl nf) := shWord_masked _ _ _ _
theorem EncodesItsRow.lrs (nf : BitVec 6) : EncodesItsRow.Statement (.lrs nf) := shWord_masked _ _ _ _
theorem EncodesItsRow.lrr (nf : BitVec 6) : EncodesItsRow.Statement (.lrr nf) := shWord_masked _ _ _ _
theorem EncodesItsRow.lgr (nf : BitVec 6) : EncodesItsRow.Statement (.lgr nf) := shWord_masked _ _ _ _
theorem EncodesItsRow.ars (nf : BitVec 6) : EncodesItsRow.Statement (.ars nf) := shWord_masked _ _ _ _
theorem EncodesItsRow.arr (nf : BitVec 6) : EncodesItsRow.Statement (.arr nf) := shWord_masked _ _ _ _
theorem EncodesItsRow.lll (nf : BitVec 6) : EncodesItsRow.Statement (.lll nf) := shWord_masked _ _ _ _
theorem EncodesItsRow.lls (nf : BitVec 6) : EncodesItsRow.Statement (.lls nf) := shWord_masked _ _ _ _
theorem EncodesItsRow.llr (nf : BitVec 6) : EncodesItsRow.Statement (.llr nf) := shWord_masked _ _ _ _
theorem EncodesItsRow.lgl (nf : BitVec 6) : EncodesItsRow.Statement (.lgl nf) := shWord_masked _ _ _ _
theorem EncodesItsRow.als (nf : BitVec 6) : EncodesItsRow.Statement (.als nf) := shWord_masked _ _ _ _
theorem EncodesItsRow.alr (nf : BitVec 6) : EncodesItsRow.Statement (.alr nf) := shWord_masked _ _ _ _
theorem EncodesItsRow.hlt : EncodesItsRow.Statement .hlt := rfl
theorem EncodesItsRow.sgl : EncodesItsRow.Statement .sgl := rfl
theorem EncodesItsRow.dbl : EncodesItsRow.Statement .dbl := rfl
theorem EncodesItsRow.dxa : EncodesItsRow.Statement .dxa := rfl
theorem EncodesItsRow.exa : EncodesItsRow.Statement .exa := rfl
theorem EncodesItsRow.rmp : EncodesItsRow.Statement .rmp := rfl
theorem EncodesItsRow.sca : EncodesItsRow.Statement .sca := rfl
theorem EncodesItsRow.ink : EncodesItsRow.Statement .ink := rfl
theorem EncodesItsRow.nrm : EncodesItsRow.Statement .nrm := rfl
theorem EncodesItsRow.iab : EncodesItsRow.Statement .iab := rfl
theorem EncodesItsRow.enb : EncodesItsRow.Statement .enb := rfl
theorem EncodesItsRow.inh : EncodesItsRow.Statement .inh := rfl
theorem EncodesItsRow.erm : EncodesItsRow.Statement .erm := rfl
theorem EncodesItsRow.chs : EncodesItsRow.Statement .chs := rfl
theorem EncodesItsRow.cra : EncodesItsRow.Statement .cra := rfl
theorem EncodesItsRow.ssp : EncodesItsRow.Statement .ssp := rfl
theorem EncodesItsRow.rcb : EncodesItsRow.Statement .rcb := rfl
theorem EncodesItsRow.csa : EncodesItsRow.Statement .csa := rfl
theorem EncodesItsRow.cma : EncodesItsRow.Statement .cma := rfl
theorem EncodesItsRow.tca : EncodesItsRow.Statement .tca := rfl
theorem EncodesItsRow.ssm : EncodesItsRow.Statement .ssm := rfl
theorem EncodesItsRow.scb : EncodesItsRow.Statement .scb := rfl
theorem EncodesItsRow.car : EncodesItsRow.Statement .car := rfl
theorem EncodesItsRow.cal : EncodesItsRow.Statement .cal := rfl
theorem EncodesItsRow.icl : EncodesItsRow.Statement .icl := rfl
theorem EncodesItsRow.aoa : EncodesItsRow.Statement .aoa := rfl
theorem EncodesItsRow.aca : EncodesItsRow.Statement .aca := rfl
theorem EncodesItsRow.icr : EncodesItsRow.Statement .icr := rfl
theorem EncodesItsRow.ica : EncodesItsRow.Statement .ica := rfl
theorem EncodesItsRow.skp : EncodesItsRow.Statement .skp := rfl
theorem EncodesItsRow.nop : EncodesItsRow.Statement .nop := rfl
theorem EncodesItsRow.spl : EncodesItsRow.Statement .spl := rfl
theorem EncodesItsRow.smi : EncodesItsRow.Statement .smi := rfl
theorem EncodesItsRow.sze : EncodesItsRow.Statement .sze := rfl
theorem EncodesItsRow.snz : EncodesItsRow.Statement .snz := rfl
theorem EncodesItsRow.slz : EncodesItsRow.Statement .slz := rfl
theorem EncodesItsRow.sln : EncodesItsRow.Statement .sln := rfl
theorem EncodesItsRow.src : EncodesItsRow.Statement .src := rfl
theorem EncodesItsRow.ssc : EncodesItsRow.Statement .ssc := rfl
theorem EncodesItsRow.sr1 : EncodesItsRow.Statement .sr1 := rfl
theorem EncodesItsRow.sr2 : EncodesItsRow.Statement .sr2 := rfl
theorem EncodesItsRow.sr3 : EncodesItsRow.Statement .sr3 := rfl
theorem EncodesItsRow.sr4 : EncodesItsRow.Statement .sr4 := rfl
theorem EncodesItsRow.ssr : EncodesItsRow.Statement .ssr := rfl
theorem EncodesItsRow.ss1 : EncodesItsRow.Statement .ss1 := rfl
theorem EncodesItsRow.ss2 : EncodesItsRow.Statement .ss2 := rfl
theorem EncodesItsRow.ss3 : EncodesItsRow.Statement .ss3 := rfl
theorem EncodesItsRow.ss4 : EncodesItsRow.Statement .ss4 := rfl
theorem EncodesItsRow.sss : EncodesItsRow.Statement .sss := rfl
theorem EncodesItsRow.spn : EncodesItsRow.Statement .spn := rfl
theorem EncodesItsRow.sps : EncodesItsRow.Statement .sps := rfl

end Sys2Proof.Laws
end

