-- ==== Sys2Proof/Laws/Step.lean ====
section
/-! SUPPORT. What a shift, the fetch and a whole step can do, said once. -/

namespace Sys2Proof.Machine

/-- A shift that answers next has a number of places; it writes A, B, C and SC (R160 to R162). -/
theorem execShift_eq_next {f : ShiftRegs → ShiftRegs} {nf : BitVec 6} {s t : State} :
    execShift f nf s = .next t ↔
      ∃ n, shiftPlaces nf s = some n ∧
        t = ((((s.drew.setA (repeatStep f n { a := s.a, b := s.b, c := false }).a).setB
              (repeatStep f n { a := s.a, b := s.b, c := false }).b).setC
              (repeatStep f n { a := s.a, b := s.b, c := false }).c).setSC (Config.freeShiftCount s.draws)) := by
  unfold execShift
  cases shiftPlaces nf s with
  | none => simp
  | some n =>
    simp only [Host.Outcome.next.injEq, Option.some.injEq, exists_eq_left', eq_comm]
    rfl

/-- The fetch that answers next (R10, R54). -/
theorem fetch_eq_next {s : State} {w : Word} :
    fetch s = .next w ↔ s.p.toNat < s.config.memWords ∧ w = s.mem.readWord s.p.toNat := wordAt_eq_next

/-- A fetched instruction that answers next was decoded from the word at P and executed after the fetch. -/
theorem fetchAndExecute_eq_next {s t : State} :
    fetchAndExecute s = .next t ↔
      s.p.toNat < s.config.memWords ∧
        ∃ i, decode s.dpBit (s.mem.readWord s.p.toNat) = .ok i ∧ exec i (afterFetch s) = .next t := by
  have hdp : (afterFetch s).dpBit = s.dpBit := by simp [afterFetch]
  simp only [fetchAndExecute, andThen_eq_next, fetch_eq_next, hdp]
  constructor
  · rintro ⟨w, ⟨hp, rfl⟩, h⟩
    refine ⟨hp, ?_⟩
    split at h
    · exact ⟨_, ‹_›, h⟩
    · cases h
  · rintro ⟨hp, i, hi, h⟩
    exact ⟨_, ⟨hp, rfl⟩, by rw [hi]; exact h⟩

/-- Everything a step that answers next can have done: taken an interrupt, or executed an instruction (R10, R273). -/
theorem step_next_cases {s t : State} (h : step s = .next t) :
    s.run = true ∧ s.rmBit = false ∧
      (((interruptDue s).1 = true ∧ takeInterrupt (interruptDue s).2 = .next t) ∨
        ((interruptDue s).1 = false ∧ fetchAndExecute (interruptDue s).2 = .next t)) := by
  unfold step at h
  split_ifs at h with hr hm hi
  · exact ⟨by simpa using hr, by simpa using hm, .inl ⟨hi, h⟩⟩
  · exact ⟨by simpa using hr, by simpa using hm, .inr ⟨by simpa using hi, h⟩⟩

end Sys2Proof.Machine
end

