-- ==== Sys2Proof/Machine/PeripheralCodes.lean ====
section
/-! DEFINITION. The card's data about devices, as data (46_input_output.md section 3, 47_peripheral_codes.md,
30_encoding.md section 7): no rule of the instruction set reads any of it (R13, R260). The tables are the card's as
printed; R262 says where they are damaged. -/

namespace Sys2Proof.Machine

/-- Device code of the paper tape reader (R245). -/
def readerDevice : BitVec 6 := 0o01#6

/-- Device code of the paper tape punch (R245). -/
def punchDevice : BitVec 6 := 0o02#6

/-- Device code of the ASR-33/35 teletype (R245). -/
def teletypeDevice : BitVec 6 := 0o04#6

/-- The card's summary of I/O codes (R246): the word, the instruction's mnemonic, the card's description. The line for
binary input from the teletype has no code of its own and is left out (R246, N36). -/
def ioCodeSummary : List (Word × String × String) :=
  [(0o030004, "OCP", "Enable ASR-33/35 in input mode"),
   (0o030104, "OCP", "Enable ASR-33/35 in output mode"), (0o070004, "SKS", "Skip if ready"),
   (0o070104, "SKS", "Skip if not busy"), (0o070504, "SKS", "Skip if input not stop code"),
   (0o130004, "INA", "Input ASCII code if ready"),
   (0o131004, "INA", "Input ASCII code if ready"),
   (0o170004, "OTA", "Output ASCII code if ready"),
   (0o170204, "OTA", "Output binary code if ready"),
   (0o030001, "OCP", "Start paper tape reader"), (0o030101, "OCP", "Stop paper tape reader"),
   (0o070001, "SKS", "Skip if paper tape reader is ready"),
   (0o130001, "INA", "Input if paper tape reader ready"),
   (0o131001, "INA", "Input if paper tape reader ready"),
   (0o030002, "OCP", "Enable paper tape punch"),
   (0o030102, "OCP", "Paper tape punch power off"),
   (0o070002, "SKS", "Skip if paper tape punch is ready"),
   (0o070102, "SKS", "Skip if paper tape punch is enabled"),
   (0o170002, "OTA", "Output to paper tape if ready")]

/-- The character table as printed (R260): character, ASCII code, magnetic tape code. The last is kept as printed
because some entries are not octal (R262). -/
def characterTable : List (String × Nat × String) :=
  [("0", 0o260, "12"), ("1", 0o261, "01"), ("2", 0o262, "02"), ("3", 0o263, "03"),
   ("4", 0o264, "04"), ("5", 0o265, "05"), ("6", 0o266, "06"), ("7", 0o267, "07"),
   ("8", 0o270, "10"), ("9", 0o271, "11"), ("A", 0o301, "61"), ("B", 0o302, "62"),
   ("C", 0o303, "63"), ("D", 0o304, "64"), ("E", 0o305, "65"), ("F", 0o306, "66"),
   ("G", 0o307, "67"), ("H", 0o310, "70"), ("I", 0o311, "71"), ("J", 0o312, "41"),
   ("K", 0o313, "42"), ("L", 0o314, "43"), ("M", 0o315, "44"), ("N", 0o316, "45"),
   ("O", 0o317, "46"), ("P", 0o320, "47"), ("Q", 0o321, "48"), ("R", 0o322, "49"),
   ("S", 0o323, "52"), ("T", 0o324, "51"), ("U", 0o325, "24"), ("V", 0o326, "25"),
   ("W", 0o327, "26"), ("X", 0o330, "27"), ("Y", 0o331, "30"), ("Z", 0o332, "31"),
   ("Space", 0o240, "20"), ("!", 0o241, "16"), ("@", 0o242, "37"), ("#", 0o243, "24"),
   ("$", 0o244, "53"), ("%", 0o245, "75"), ("&", 0o246, "14"), ("'", 0o247, "34"),
   ("(", 0o252, "74"), (")", 0o253, "75"), ("*", 0o252, "60"), ("+", 0o252, "33"),
   ("-", 0o254, "49"), (".", 0o255, "25"), ("/", 0o257, "21"), (":", 0o272, "15"),
   ("; :", 0o273, "52"), ("<", 0o274, "57"), ("=", 0o275, "13"), (">", 0o276, "17"),
   ("?", 0o277, "17"), ("!", 0o333, "55"), ("@", 0o333, "36"), ("#", 0o334, "76"),
   ("$", 0o335, "36"), ("%", 0o336, "77")]

/-- The law of R261 for a digit, a letter or the space: the code is '200 more than seven-bit ASCII. -/
def asciiCode (c : Char) : Nat := 0o200 + c.toNat

/-- The characters for which R261 asserts the law. -/
def reliableCharacters : List Char :=
  "0123456789ABCDEFGHIJKLMNOPQRSTUVWXYZ ".toList

/-- What the table prints in the character column for a character of R261. -/
def characterCell (c : Char) : String := if c = ' ' then "Space" else c.toString

/-- The ASCII code that the table prints for a character. -/
def printedCode (c : Char) : Option Nat :=
  (characterTable.find? fun row => row.1 == characterCell c).map fun row => row.2.1

/-- The teletype function control table, line by line as printed; no meaning is assigned to any cell (R263). -/
def teletypeControls : List String :=
  ["Beil | Line Feed | Return | X on | X off | 221 | 223 | 377",
   "010057 | 02010 | 03000 | X on | X off | 221 | 223 | 377",
   "13100X | 1300X | 1300X", "020003 | 02013 | 11000",
   "010040 | 11000 | 02000", "010000 | 02000 | 10040",
   "13100X | 13100X"]

/-- What the header of that table names (R263): the control characters, and then its octal codes. Which of them a line
below belongs to cannot be recovered (N24). -/
def teletypeControlHeader : List String × List Nat :=
  (["bell", "line feed", "carriage return", "X-on", "X-off"], [0o221, 0o223, 0o377])

/-- The two lines printed after the table (R263). -/
def teletypeControlKey : List String := ["X = 1 for High Speed Reader", "X = 4 for ASR"]

/-- What those two lines say: the last digit X of a code of the table is a device number, one of these (R263, R245). -/
def controlDigits : List (BitVec 3 × BitVec 6) := [(1#3, readerDevice), (4#3, teletypeDevice)]

/-- The device that the digit X names, if it is one of the two (R263). -/
def controlDevice (x : BitVec 3) : Option (BitVec 6) :=
  (controlDigits.find? fun row => row.1 == x).map fun row => row.2

/-- The word that the table prints as 13100X, for a digit X: by R263 it is INA '100X. -/
def controlInputWord (x : BitVec 3) : Word := 0o131000#16 + x.zeroExtend 16

/-- The card's notes to the character table as printed, the subscripts on the line (R264). Their footnote marks are
lost, so no note is tied to a row. -/
def characterNotes : List String :=
  ["When writing magnetic tapes in even parity (BCD) mode, 0 [subscript 9] is written as 12; " ++
     "conversely when reading in even parity, 1 [subscript 2] is read as 0 [subscript 9].",
   "Upper case characters on ASR-33/35", "Upper case I", "Upper case M", "Upper case N"]

/-- The code that even parity writes on a magnetic tape for a code: the zero, code 00, is written as 12 (R264).
The note speaks of the zero alone. DESIGN CHOICE (log entry 34): every other code, 12 among them, is written as it is. -/
def evenParityWritten (code : BitVec 6) : BitVec 6 := if code = 0o00#6 then 0o12#6 else code

/-- The code that even parity reads for a code on a magnetic tape: 12 is read back as the zero (R264).
The note speaks of 12 alone. DESIGN CHOICE (log entry 34): every other code, 00 among them, is read as it is. -/
def evenParityRead (code : BitVec 6) : BitVec 6 := if code = 0o12#6 then 0o00#6 else code

/-- The names of the DAP-16 pseudo-operations and their one-line descriptions (R95). They direct the assembler; none
is an instruction. -/
def pseudoOperations : List (String × String) :=
  [("***", "Address field set to zero"), ("***", "Op code set by program"),
   ("ABS", "Absolute Mode"), ("BCI", "Binary (ASCII) coded information"),
   ("BES", "Block ending with symbol"), ("BSS", "Block starting with symbol"),
   ("BZZ", "Block storage of ZEROs"), ("CF1", "Configuration DDP-116"),
   ("CF3", "Configuration H316"), ("CF4", "Configuration DDP-416"),
   ("CFF", "Configuration DDP-516"), ("CALL", "Call Subroutine"),
   ("COMN", "Put in common storage"), ("CONN", "Connect to Constant"),
   ("DBP", "Double Precision decimal to binary"), ("DEC", "Decimal to binary"), ("E/ICT", "Eject"),
   ("END", "End of source program"), ("EQU", "Equals"), ("EXD", "Enter extended desectoring"),
   ("FIN", "Finish; punch out literals"), ("LIST", "Generate listing"), ("LOAD", "Load Mode"),
   ("LXD", "Leave extended desectoring"), ("MOR", "More"), ("NLIST", "No listing"),
   ("OCF", "Octal to binary"), ("ORIG", "Origin"), ("PTRG", "Paper Tape Reader"),
   ("REL", "Relocatable mode"), ("SETB", "Set base sector"), ("SUBR", "Subroutine entry point"),
   ("XAC", "Define External Address Constant")]

end Sys2Proof.Machine
end

