-- ==== Sys2Proof/Tests/Slice0.lean ====
section
/-! SUPPORT. Tests. Words and results are those of spec/95_test_vectors.md or worked by hand from the rule named;
the witnesses at the end show, for each obligation with hypotheses, values that meet all of them. -/

namespace Sys2Proof.Tests

open Sys2Proof Sys2Proof.Machine

/-- The state of an answer that is a next state. -/
def nextOf (r : Result State) : Option State :=
  match r with
  | .next t => some t
  | .fault _ => none
  | .refused _ => none

/-- The reset machine with an image, and with other parameters. -/
def machine (image : List (Word × Word)) : State := launch defaultParameters image

/-- The parameters with every option present and all of memory installed. -/
def fullParameters : Parameters :=
  { defaultParameters with
    memWords := 32768, hasExtendedAddressing := true, hasMemoryLockout := true, hasMemoryParity := true }

/-- The next state after the word at P. -/
def ran (w : Nat) (s : State) : Option State := nextOf (step (s.withFetchWord 16 w))

/-- P, A, B and C. -/
def regs (s : State) : Word × Word × Word × Bool := (s.p, s.a, s.b, s.c)

/-- P, A, B and C after the word at P. -/
def regsAfter (w : Nat) (s : State) : Option (Word × Word × Word × Bool) := (ran w s).map regs

/-! ### WellFormed: OTA to the device codes of SMK and OTK is no term of the language (R79) -/

theorem test_wf_ota_device_20_refused : (Instr.ota ⟨0o02, 0o20⟩).wf = false := by decide
theorem test_wf_ota_device_24_refused : (Instr.ota ⟨0o00, 0o24⟩).wf = false := by decide
theorem test_wf_ota_other_device : (Instr.ota ⟨0o00, 0o04⟩).wf = true := by decide

/-! ### Decoding: a word of the spec's encoding for every constructor (R73 to R79, R84, R86 to R90) -/

/-- Sector 0, address '100, with no bits and with the three bits set. -/
def plain : MemRef := ⟨false, false, false, 0o100⟩
def decorated : MemRef := ⟨true, true, true, 0o777⟩

/-- What a word is read as when DP = 0. -/
def read (w : Word) : Option Instr := (decode false w).toOption

theorem test_decode_memory_reference :
    [0o002100, 0o004100, 0o006100, 0o010100, 0o012100, 0o014100, 0o016100, 0o020100, 0o022100, 0o024100, 0o026100,
      0o034100, 0o036100].map read =
    [Instr.jmp plain, .lda plain, .ana plain, .sta plain, .era plain, .add plain, .sub plain, .jst plain, .cas plain,
      .irs plain, .ima plain, .mpy plain, .div plain].map some := by decide

theorem test_decode_every_operand_bit :
    [0o143777, 0o145777, 0o161777, 0o175777, 0o177777].map read =
    [Instr.jmp decorated, .lda decorated, .jst decorated, .mpy decorated, .div decorated].map some := by decide

theorem test_decode_double_precision :
    [0o004100, 0o010100, 0o014100, 0o016100, 0o145777, 0o006100].map (fun w => (decode true w).toOption) =
    [Instr.dld plain, .dst plain, .dad plain, .dsb plain, .dld decorated, .ana plain].map some := by decide

theorem test_decode_index_register :
    [0o032100, 0o072100, 0o133777, 0o173777].map read =
    [Instr.stx ⟨false, false, 0o100⟩, .ldx ⟨false, false, 0o100⟩, .stx ⟨true, true, 0o777⟩,
      .ldx ⟨true, true, 0o777⟩].map some := by decide

theorem test_decode_input_output :
    [0o030104, 0o070504, 0o131004, 0o130001, 0o170204, 0o170002, 0o170020, 0o170024, 0o171020].map read =
    [Instr.ocp ⟨0o01, 0o04⟩, .sks ⟨0o05, 0o04⟩, .ina ⟨0o10, 0o04⟩, .ina ⟨0o00, 0o01⟩, .ota ⟨0o02, 0o04⟩,
      .ota ⟨0o00, 0o02⟩, .smk .mask, .smk .mask2, .otk].map some := by decide

theorem test_decode_shifts :
    [0o040077, 0o040177, 0o040277, 0o040477, 0o040577, 0o040677, 0o041077, 0o041177, 0o041277, 0o041477, 0o041577,
      0o041677, 0o041601].map read =
    [Instr.lrl 63, .lrs 63, .lrr 63, .lgr 63, .ars 63, .arr 63, .lll 63, .lls 63, .llr 63, .lgl 63, .als 63, .alr 63,
      .alr 1].map some := by decide

theorem test_decode_control :
    [0o000000, 0o000005, 0o000007, 0o000011, 0o000013, 0o000021, 0o000041, 0o000043, 0o000101, 0o000201, 0o000401,
      0o001001, 0o001401].map read =
    [Instr.hlt, .sgl, .dbl, .dxa, .exa, .rmp, .sca, .ink, .nrm, .iab, .enb, .inh, .erm].map some := by decide

theorem test_decode_accumulator :
    [0o140024, 0o140040, 0o140100, 0o140200, 0o140320, 0o140401, 0o140407, 0o140500, 0o140600, 0o141044, 0o141050,
      0o141140, 0o141206, 0o141216, 0o141240, 0o141340].map read =
    [Instr.chs, .cra, .ssp, .rcb, .csa, .cma, .tca, .ssm, .scb, .car, .cal, .icl, .aoa, .aca, .icr, .ica].map some := by
  decide

theorem test_decode_skips :
    [0o100000, 0o101000, 0o100400, 0o101400, 0o100040, 0o101040, 0o100100, 0o101100, 0o100001, 0o101001].map read =
    [Instr.skp, .nop, .spl, .smi, .sze, .snz, .slz, .sln, .src, .ssc].map some := by decide

theorem test_decode_switch_and_parity_skips :
    [0o100020, 0o100010, 0o100004, 0o100002, 0o100036, 0o101020, 0o101010, 0o101004, 0o101002, 0o101036, 0o100200,
      0o101200].map read =
    [Instr.sr1, .sr2, .sr3, .sr4, .ssr, .ss1, .ss2, .ss3, .ss4, .sss, .spn, .sps].map some := by decide

/-- Unlisted words (R79, R91), among them the printed CAL code '141060 (R120). -/
theorem test_decode_unlisted :
    [0o141060, 0o000003, 0o140000, 0o100060, 0o040377, 0o170120, 0o171024].map (decode false) =
    [0o141060, 0o000003, 0o140000, 0o100060, 0o040377, 0o170120, 0o171024].map
      (fun w => .error (.unlistedEncoding w)) := by decide

/-- Every code that the peripheral summary prints is an input/output instruction (R245, R246). -/
theorem test_peripheral_codes_decode :
    ioCodeSummary.all (fun row => (read row.1).isSome) = true := by decide

/-- With a digit X of the key, the code printed 13100X is INA '100X for the device that R245 numbers so: '01 is the
reader, '04 the teletype. No other digit names a device (R263). -/
theorem test_teletype_control_codes :
    (read (controlInputWord 1) = some (.ina ⟨0o10, 0o01⟩) ∧ controlDevice 1 = some 0o01#6) ∧
      (read (controlInputWord 4) = some (.ina ⟨0o10, 0o04⟩) ∧ controlDevice 4 = some 0o04#6) ∧
      [0, 2, 3, 5, 6, 7].map controlDevice = [none, none, none, none, none, none] := by decide

/-- The zero is written as 12 in even parity, 12 is read as the zero (R264); 01 left alone is the model's choice (log
entry 34). -/
theorem test_even_parity_zero :
    evenParityWritten 0o00 = 0o12 ∧ evenParityRead 0o12 = 0o00 ∧ evenParityWritten 0o01 = 0o01 := by decide

/-- R261 holds of every character it names, in the table as printed. -/
theorem test_character_law :
    reliableCharacters.all (fun c => printedCode c == some (asciiCode c)) = true := by decide +kernel

/-! ### Effective addresses (95_test_vectors.md 2.1) -/

theorem test_lda_indexed_then_indirect :
    regsAfter 0o144100 (machine [(0, 1), (0o101, 0o300), (0o300, 5)]) = some (0o1001, 5, 0, false) := by decide

theorem test_lda_index_bit_of_the_address_word :
    regsAfter 0o104100 (machine [(0, 3), (0o100, 0o040200), (0o203, 0o13)]) = some (0o1001, 0o13, 0, false) := by
  decide

theorem test_lda_index_wraps :
    regsAfter 0o044100 (machine [(0, 0o177777), (0o77, 0o61)]) = some (0o1001, 0o61, 0, false) := by decide

theorem test_lda_in_the_last_word_of_its_sector :
    regsAfter 0o005000 ((machine [(0o3000, 0o41)]).setP 0o3777) = some (0o4000, 0o41, 0, false) := by decide

/-- A machine in extended mode (R82). -/
def extended (image : List (Word × Word)) : State :=
  ((launch fullParameters image).setPMI true).setScript { Script.free with parity := [false, false, false] }

theorem test_lda_extended_indirect_first_index_last :
    regsAfter 0o144100 (extended [(0, 2), (0o100, 0o040200), (0o040202, 0o11)]) = some (0o1001, 0o11, 0, false) := by
  decide

theorem test_lda_of_no_memory :
    step (((launch { defaultParameters with memWords := 8192 } [(0o100, 0o20000)])).withFetchWord 16 0o104100) =
      .fault (.noMemory 0o20000) := rfl

/-- A word that addresses itself indirectly: the loop of R81 has no end. -/
theorem test_indirect_chain_without_end (fuel : Nat) :
    normalChain fuel true false 0o100 (machine [(0o100, 0o100100)]) = .fault .endlessIndirection := by
  induction fuel with
  | zero => rfl
  | succ n ih =>
    show andThen (normalChain n true false 0o100 (machine [(0o100, 0o100100)])) _ = _
    rw [ih]; rfl

/-! ### Load, store, exchange -/

theorem test_sta_and_stx : (ran 0o010100 ((machine []).setA 0o1234)).map (fun t => t.mem.readWord 0o100) = some 0o1234 ∧
    (ran 0o032100 (machine [(0, 0o177770)])).map (fun t => t.mem.readWord 0o100) = some 0o177770 := by decide

theorem test_ldx_is_not_indexed :
    (ran 0o072100 (machine [(0, 5), (0o100, 0o22), (0o105, 0o33)])).map State.x = some 0o22 := by decide

theorem test_dld_dst :
    regsAfter 0o004100 ((machine [(0o100, 1), (0o101, 0o100002)]).setDP true) = some (0o1001, 1, 0o100002, false) ∧
    (ran 0o010100 ((((machine []).setDP true).setA 3).setB 0o100004)).map
      (fun t => (t.mem.readWord 0o100, t.mem.readWord 0o101)) = some (3, 0o100004) := by decide

theorem test_ima_exchanges_a_and_x :
    (ran 0o026000 ((machine [(0, 0o22)]).setA 0o11)).map (fun t => (t.a, t.x)) = some (0o22, 0o11) := by decide

theorem test_iab_sca_cra :
    regsAfter 0o000201 (((machine []).setA 1).setB 2) = some (0o1001, 2, 1, false) ∧
    regsAfter 0o000041 (((machine []).setA 0o177777).setSC 21) = some (0o1001, 0o25, 0, false) ∧
    regsAfter 0o140040 (((machine []).setA 0o177777).setC true) = some (0o1001, 0, 0, true) := by decide

/-! ### Half words, arithmetic, logic -/

theorem test_half_words :
    [0o141050, 0o141044, 0o141340, 0o141140, 0o141240].map
      (fun w => (ran w ((machine []).setA 0o123456)).map State.a) =
    [0o000056, 0o123400, 0o027247, 0o000247, 0o027000].map some := by decide

/-- ADD and SUB of A and the word at '100. -/
def sumOf (w : Nat) (a m : Word) : Option (Word × Word × Word × Bool) :=
  regsAfter w (((machine [(0o100, m)]).setA a).setC true)

theorem test_add :
    sumOf 0o014100 5 7 = some (0o1001, 0o14, 0, false) ∧ sumOf 0o014100 0o077777 1 = some (0o1001, 0o100000, 0, true) ∧
    sumOf 0o014100 0o177777 1 = some (0o1001, 0, 0, false) := by decide

theorem test_sub :
    sumOf 0o016100 5 7 = some (0o1001, 0o177776, 0, false) ∧
    sumOf 0o016100 0 0o100000 = some (0o1001, 0o100000, 0, true) := by decide

/-- DAD and DSB of A, B and the words at '100 and '101. -/
def doubleSumOf (w : Nat) (a b hi lo : Word) : Option (Word × Word × Word × Bool) :=
  regsAfter w ((((machine [(0o100, hi), (0o101, lo)]).setDP true).setA a).setB b)

theorem test_dad :
    doubleSumOf 0o014100 0 0o100001 0 0o100001 = some (0o1001, 0, 2, false) ∧
    doubleSumOf 0o014100 0o077777 0o077777 0 1 = some (0o1001, 0o100000, 0, true) := by decide

theorem test_dsb : doubleSumOf 0o016100 0 0 0 1 = some (0o1001, 0o177777, 0o077777, false) := by decide

theorem test_mpy :
    sumOf 0o034100 3 0o177776 = some (0o1001, 0o177777, 0o077772, true) ∧
    sumOf 0o034100 0o100000 0o077777 = some (0o1001, 0o100001, 0, true) := by decide

/-- DIV of A and B by the word at '100. -/
def quotientOf (a b m : Word) : Option (Word × Word × Word × Bool) :=
  regsAfter 0o036100 ((((machine [(0o100, m)]).setA a).setB b).setC true)

theorem test_div :
    quotientOf 0o177777 0o077771 2 = some (0o1001, 0o177775, 0o177777, false) ∧
    quotientOf 0 0o100007 0o177776 = some (0o1001, 0o177775, 1, false) := by decide

theorem test_div_improper :
    (quotientOf 0 7 0).map (fun r => r.2.2.2) = some true ∧ (quotientOf 1 0 1).map (fun r => r.2.2.2) = some true := by
  decide

theorem test_increments :
    regsAfter 0o141216 (((machine []).setA 0o077777).setC true) = some (0o1001, 0o100000, 0, true) ∧
    regsAfter 0o141206 (((machine []).setA 0o177777).setC true) = some (0o1001, 0, 0, false) ∧
    regsAfter 0o140407 (((machine []).setA 1).setC true) = some (0o1001, 0o177777, 0, true) := by decide

theorem test_logic :
    (sumOf 0o006100 0o170360 0o123456).map (fun r => r.2.1) = some 0o120040 ∧
    (sumOf 0o012100 0o170360 0o123456).map (fun r => r.2.1) = some 0o053736 ∧
    regsAfter 0o140401 ((machine []).setA 0o123456) = some (0o1001, 0o054321, 0, false) := by decide

theorem test_signs :
    regsAfter 0o140320 ((machine []).setA 0o100005) = some (0o1001, 5, 0, true) ∧
    [0o140500, 0o140100, 0o140024].map (fun w => (ran w ((machine []).setA 5)).map State.a) =
      [some 0o100005, some 5, some 0o100005] := by decide

/-! ### Shifts and normalise -/

/-- A shift word on A and B. -/
def shiftOf (w : Nat) (a b : Word) : Option (Word × Word × Word × Bool) :=
  regsAfter w (((machine []).setA a).setB b)

theorem test_shifts_of_a :
    [shiftOf 0o041575 0o020001 0, shiftOf 0o040574 0o000170 0, shiftOf 0o041674 0o123456 0, shiftOf 0o040677 3 0,
      shiftOf 0o041460 1 0, shiftOf 0o040470 0o123456 0].map (Option.map (·.2)) =
    [(0o10, 0, true), (7, 0, true), (0o071352, 0, false), (0o100001, 0, true), (0, 0, true),
      (0o247, 0, false)].map some := by decide

theorem test_long_shifts :
    [shiftOf 0o041156 0 0o012345, shiftOf 0o040177 1 0o100001, shiftOf 0o041260 0o111111 0o022222, shiftOf 0o040277 0 1,
      shiftOf 0o041040 0o177777 0o177777, shiftOf 0o040070 0o377 0].map (Option.map (·.2)) =
    [(0o123450, 0, true), (0, 0o140000, true), (0o022222, 0o111111, true), (0o100000, 0, true), (0, 0, true),
      (0, 0o177400, false)].map some := by decide

theorem test_nrm :
    (ran 0o000101 (((machine []).setA 0o010000).setB 0o140000)).map (fun t => (t.a, t.b, t.sc)) =
      some (0o040002, 0o100000, 2) ∧
    (ran 0o000101 (((machine []).setA 0).setB 1)).map (fun t => (t.a, t.b, t.sc)) = some (0o040000, 0, 29) := by decide

/-! ### The parameters of R5 (95_test_vectors.md 2.3 and 2.5, their defaults and their other values) -/

/-- The three points whose default is refuse, on a machine launched with the defaults. -/
theorem test_defaults_refuse :
    step ((machine []).withFetchWord 16 0o040400) = .refused .shiftCountZero ∧
      step ((((machine [(0o100, 1)]).setA 0o177777).setB 0).withFetchWord 16 0o036100) =
        .refused .divQuotientUndecided ∧
      step (((machine []).setB 0o100000).withFetchWord 16 0o000101) = .refused .nrmOperandUndecided := ⟨rfl, rfl, rfl⟩

/-- The reset machine runs them. -/
theorem test_reset_runs_open_points :
    [0o040400, 0o000101].map (fun w => (ran w State.reset).map State.p) = [some 0o1001, some 0o1001] := by decide

theorem test_mpy_min_min_given :
    regsAfter 0o034100 ((launch { defaultParameters with mpyMinMin := .values 0x8000 0 none } [(0o100, 0x8000)]).setA
      0x8000) = some (0o1001, 0x8000, 0, false) := by decide

/-- -7 by 2 under the floor and the euclidean rounding, 7 by -2 under both. -/
theorem test_div_rounding :
    [DivRounding.floor, .euclidean].map (fun f => [(0o177777, 0o077771, 2), (0, 7, 0o177776)].map
      fun (a, b, m) => (regsAfter 0o036100 (((launch
        { defaultParameters with divFn := { rounding := f, atLimit := .refuse, exceptions := [] } }
          [(0o100, m)]).setA a).setB b)).map (·.2)) =
    [[some (0o177774, 1, false), some (0o177774, 0o177777, false)],
      [some (0o177774, 1, false), some (0o177775, 1, false)]] := by decide

/-- The machine launched with a limit for NRM. -/
def limited (n : Nat) : State :=
  launch { defaultParameters with nrmFn := { limit := .limit n, count := .places, carry := .kept } } []

/-- NRM of all ones under the limits 3, 30 and 31, then of zero under 31 and 33 (the loop of R176 by hand). -/
theorem test_nrm_limit :
    [3, 30, 31].map (fun n => (ran 0o000101 (((limited n).setA 0o177777).setB 0o077777)).map
      fun t => (t.a, t.b, t.sc)) =
        [some (0o177777, 0o077770, 3), some (0o100000, 0, 30), some (0o100000, 0, 30)] ∧
    [31, 33].map (fun n => (ran 0o000101 ((limited n).setB 0o100000)).map fun t => (t.a, t.b, t.sc)) =
      [some (0, 0o100000, 31), some (0, 0o100000, 1)] := by decide

/-- NRM of '000001 leaves the complements of 14, and C as it was. -/
theorem test_nrm_complement :
    [NrmCount.onesComplement, .twosComplement].map (fun f => (ran 0o000101 (((launch
      { defaultParameters with nrmFn := { limit := .refuse, count := f, carry := .kept } } []).setA 1).setC true)).map
        fun t => (t.a, t.sc, t.c)) = [some (0o040000, 17, true), some (0o040000, 18, true)] := by decide

/-- An image word beyond the installed memory is not loaded, and the launch is not well formed (R291). -/
theorem test_launch_of_no_memory :
    (launch { defaultParameters with memWords := 8192 } [(0o20000, 5), (1, 7)]).mem = [(3, 7)] := by decide

/-! ### Transfers and skips -/

theorem test_cas :
    [sumOf 0o022100 6 5, sumOf 0o022100 5 5, sumOf 0o022100 0o100000 0o077777].map (Option.map (·.1)) =
      [0o1001, 0o1002, 0o1003].map some := by decide

theorem test_jmp_indirect : regsAfter 0o102100 (machine [(0o100, 0o1234)]) = some (0o1234, 0, 0, false) := by decide

theorem test_jst_keeps_two_bits :
    (ran 0o020100 (machine [(0o100, 0o140000)])).map (fun t => (t.p, t.mem.readWord 0o100)) =
      some (0o101, 0o141001) := by decide

theorem test_jst_extended :
    (ran 0o020100 ((extended [(0o100, 0o100000)]).setP 0o40000)).map (fun t => (t.p, t.mem.readWord 0o100)) =
      some (0o101, 0o140001) := by decide

theorem test_irs :
    (ran 0o024100 (machine [(0o100, 0o177777)])).map (fun t => (t.p, t.mem.readWord 0o100)) = some (0o1002, 0) ∧
    (ran 0o024000 (machine [(0, 0o177776)])).map (fun t => (t.p, t.x)) = some (0o1001, 0o177777) := by decide

/-- P after each of the words. -/
def ends (s : State) (l : List Nat) : List (Option Word) := l.map fun w => (ran w s).map State.p

theorem test_skips_of_a_and_c :
    ends (machine []) [0o100000, 0o101000, 0o100400, 0o101400, 0o100040, 0o101040, 0o100100, 0o101100, 0o100001,
      0o101001] = [0o1002, 0o1001, 0o1002, 0o1001, 0o1002, 0o1001, 0o1002, 0o1001, 0o1002, 0o1001].map some ∧
    ends (((machine []).setA 0o100001).setC true) [0o100400, 0o101400, 0o100040, 0o101040, 0o100100, 0o101100, 0o100001,
      0o101001] = [0o1001, 0o1002, 0o1001, 0o1002, 0o1001, 0o1002, 0o1001, 0o1002].map some := by decide

/-- Switches 1 and 3 off, 2 and 4 on. -/
def switched : State := fixSwitches ⟨false, true, false, true⟩ (machine [])

theorem test_switch_skips :
    ends switched [0o100020, 0o100010, 0o100004, 0o100002, 0o100036, 0o101020, 0o101010, 0o101004, 0o101002, 0o101036] =
      [0o1002, 0o1001, 0o1002, 0o1001, 0o1001, 0o1001, 0o1002, 0o1001, 0o1002, 0o1002].map some := by decide

/-- Every option present, answers about parity fixed, MPE set. -/
def parityMachine : State :=
  ((launch fullParameters []).setMPE true).setScript { Script.free with parity := [false] }

theorem test_parity :
    ends parityMachine [0o100200, 0o101200] = [0o1001, 0o1002].map some ∧
    (ran 0o000021 parityMachine).map State.mpe = some false := by decide

/-! ### Control, modes, input and output -/

theorem test_hlt_rcb_scb :
    (ran 0o000000 (machine [])).map (fun t => (t.run, t.p)) = some (false, 0o1001) ∧
    (ran 0o140200 ((machine []).setC true)).map State.c = some false ∧
    (ran 0o140600 (machine [])).map State.c = some true := by decide

theorem test_enb_inh :
    (ran 0o000401 (machine [])).map (fun t => (t.pi, t.enbPending)) = some (true, true) ∧
    (ran 0o001001 (((machine []).setPI true).setEnbPending true)).map (fun t => (t.pi, t.enbPending)) =
      some (false, false) := by decide

theorem test_keys :
    (ran 0o000043 (((machine []).setC true).setSC 5)).map State.a = some 0o100005 ∧
    (ran 0o171020 ((machine []).setA 0o140003)).map (fun t => (t.c, t.dp, t.pmi, t.sc)) =
      some (true, true, false, 3) := by decide

theorem test_modes :
    (ran 0o000005 ((machine []).setDP true)).map State.dp = some false ∧
    (ran 0o000007 (machine [])).map State.dp = some true ∧
    (ran 0o000013 ((extended []).setPMI false)).map State.pmi = some true ∧
    (ran 0o000011 (extended [])).map State.pmi = some false ∧
    (ran 0o001401 (extended [])).map State.rm = some true := by decide

theorem test_refusals :
    step ((machine []).withFetchWord 16 0o000013) = .refused (.optionAbsent .extendedAddressing) ∧
    step (((extended []).setP 0o40000).withFetchWord 16 0o000011) = .refused .dxaInUpperMemory ∧
    step ((machine []).withFetchWord 16 0o141060) = .refused (.unlistedEncoding 0o141060) := ⟨rfl, rfl, rfl⟩

/-- Every device ready, the word '301 on the input bus. -/
def ready : State :=
  ((machine []).setA 0o140000).setScript
    { Script.free with sense := [true], input := [(true, 0o301)], output := [true] }

theorem test_input_output_ready :
    (ran 0o070004 ready).map (fun t => (t.p, t.events)) = some (0o1002, [.sks 0 0o04 true]) ∧
    (ran 0o131004 ready).map (fun t => (t.p, t.a)) = some (0o1002, 0o301) ∧
    (ran 0o130004 ready).map (fun t => (t.p, t.a)) = some (0o1002, 0o140301) ∧
    (ran 0o170004 ready).map (fun t => (t.p, t.events)) = some (0o1002, [.ota 0 0o04 0o140000 true]) := by decide

/-- Nothing answers the teletype. -/
def deaf : State := (launch { defaultParameters with unansweredDevices := [teletypeDevice] } []).setA 0o140000

theorem test_input_output_without_a_device :
    ends deaf [0o070004, 0o131004, 0o170004] = [0o1001, 0o1001, 0o1001].map some ∧
    (ran 0o131004 deaf).map State.a = some 0o140000 := by decide

theorem test_ocp_smk :
    (ran 0o030104 (machine [])).map (fun t => (t.p, t.events)) = some (0o1001, [.ocp 0o01 0o04]) ∧
    (ran 0o170020 ((machine []).setA 1)).map (fun t => (t.p, t.mask, t.events)) =
      some (0o1001, 1, [.smk 0o20 1]) ∧
    (ran 0o170024 ((machine []).setA 1)).map (fun t => (t.mask, t.mask2)) = some (0, 1) := by decide

/-- Interrupts enabled, one requested, the link word at '200 (R273, R274). -/
def interrupted : State :=
  ((machine [(0o63, 0o200)]).setPI true).setScript { Script.free with interrupt := [true] }

theorem test_interrupt_entry :
    (nextOf (step interrupted)).map (fun t => (t.p, t.pi, t.mem.readWord 0o200)) = some (0o201, false, 0o1000) := by
  decide

/-! ### Memory -/

/-- The canonical form: writing the value an unlisted byte reads as removes the cell (assumption 2). -/
theorem test_memory_is_canonical :
    ((machine []).mem.writeWord 5 0o100001).writeWord 5 0 = ([] : Memory) ∧
    (Memory.writeWord [] 5 0o001000).readWord 5 = 0o001000 ∧
    Memory.writeWord [] 5 0o001000 = [(10, 2)] := by decide

/-! ### Witnesses: values that meet all the hypotheses of each obligation that has some -/

theorem witness_DecodeOfEncode :
    (Instr.lda decorated).wf = true ∧ (Instr.lda decorated).selectedBy false = true ∧
      (Instr.dst plain).selectedBy true = true ∧ (Instr.ota ⟨0o17, 0o77⟩).wf = true := by decide

theorem witness_EncodeOfDecode : decode true 0o145777 = .ok (.dld decorated) ∧ decode false 0o170024 = .ok (.smk .mask2) :=
  ⟨rfl, rfl⟩

/-- The state of the witnesses: '100 addresses '200, directly; the words '200 and '201 hold 5 and 7. -/
def start : State := machine [(0o100, 0o200), (0o200, 5), (0o201, 7)]

/-- It with the word for CRA at P. -/
def atCra : State := start.withFetchWord 16 0o140040

theorem witness_Inv : atCra.Inv :=
  ⟨by decide, by decide, by decide, by decide, by decide, by decide, by decide⟩

theorem witness_StepKeepsTheInvariant : atCra.Inv ∧ ∃ t, step atCra = .next t := ⟨witness_Inv, _, rfl⟩

theorem witness_StepKeepsTheInvariant_interrupt : interrupted.Inv ∧ ∃ t, step interrupted = .next t :=
  ⟨⟨by decide, by decide, by decide, by decide, by decide, by decide, by decide⟩, _, rfl⟩

theorem witness_StepKeepsParametersAndSwitches : ∃ t, step (switched.withFetchWord 16 0o100020) = .next t := ⟨_, rfl⟩

/-- A launch in upper memory, with the extended addressing premise. -/
def upperLaunch : Launch :=
  { parameters := { fullParameters with startAddress := 0o77777 }
    image := [(0o77777, 0o140040), (0, 3)]
    pmi := some true }

theorem witness_ResetKeepsTheInvariant :
    upperLaunch.wf = true ∧ Launch.wf { image := [(0o37777, 1)] } = true ∧ Launch.wf { image := [(0o40000, 1)] } = false ∧
      Launch.wf { image := [(5, 1), (5, 2)] } = false := by decide

theorem witness_Executing : Executing atCra := ⟨rfl, rfl, rfl⟩

theorem witness_StepRunsTheDecodedInstruction :
    (interruptDue atCra).2 = atCra ∧ atCra.p.toNat < atCra.config.memWords ∧
      decode atCra.dpBit (atCra.mem.readWord atCra.p.toNat) = .ok .cra := ⟨rfl, by decide, rfl⟩

/-- With interrupts enabled and none requested. -/
theorem witness_StepRunsTheDecodedInstruction_asked :
    Executing ((atCra.setPI true).setScript { Script.free with interrupt := [false] }) := ⟨rfl, rfl, rfl⟩

theorem witness_StepStopsWhereNoInstructionIs_halted : (start.setRun false).run = false := rfl

/-- At the first address with no memory. -/
theorem witness_StepStopsWhereNoInstructionIs_no_memory :
    Executing ((launch fullParameters []).setP 0o100000) ∧
      ¬((launch fullParameters []).setP 0o100000).p.toNat < fullParameters.memWords := ⟨⟨rfl, rfl, rfl⟩, by decide⟩

theorem witness_StepStopsWhereNoInstructionIs_unlisted :
    Executing (start.withFetchWord 16 0o141060) ∧
      (start.withFetchWord 16 0o141060).mem.readWord 0o1000 = 0o141060 ∧
      decode false 0o141060 = .error (.unlistedEncoding 0o141060) := ⟨⟨rfl, rfl, rfl⟩, by decide, rfl⟩

theorem witness_StepTakesADueInterrupt :
    interrupted.run = true ∧ interrupted.pi = true ∧ interrupted.enbPending = false ∧ interrupted.rmBit = false ∧
      interrupted.config.hasExtendedAddressing = false ∧
      askInterrupt interrupted = (true, interrupted.setScript Script.free) ∧
      resolve true false interrupted.config.intVector interrupted = .next ⟨0o200, [0o63]⟩ ∧
      (0o200 : Word).toNat < interrupted.config.memWords := ⟨rfl, rfl, rfl, rfl, rfl, rfl, rfl, by decide⟩

theorem witness_WhenNoInterruptIsTaken_off : start.run = true ∧ start.rmBit = false ∧ start.pi = false := by decide

theorem witness_WhenNoInterruptIsTaken_pending :
    ((start.setPI true).setEnbPending true).run = true ∧ ((start.setPI true).setEnbPending true).rmBit = false ∧
      ((start.setPI true).setEnbPending true).enbPending = true := by decide

theorem witness_WhenNoInterruptIsTaken_extended :
    (interruptDue (((launch fullParameters []).setPI true).setScript { Script.free with interrupt := [true] })).1 =
      true ∧ (launch fullParameters []).config.hasExtendedAddressing = true ∧
      (launch fullParameters []).run = true ∧ (launch fullParameters []).rmBit = false := by decide

theorem witness_InstructionStepEndsEnbPending_cra :
    Executing atCra ∧ decode atCra.dpBit (atCra.mem.readWord atCra.p.toNat) = .ok .cra ∧ ∃ t, step atCra = .next t :=
  ⟨⟨rfl, rfl, rfl⟩, rfl, _, rfl⟩

theorem witness_InstructionStepEndsEnbPending_enb :
    Executing (start.withFetchWord 16 0o000401) ∧ decode false 0o000401 = .ok .enb ∧
      ∃ t, step (start.withFetchWord 16 0o000401) = .next t := ⟨⟨rfl, rfl, rfl⟩, rfl, _, rfl⟩

/-- The link word at the last address of 14 bits, the interrupted address the last one. -/
def linked : State := (machine [(0o63, 0o37777)]).setP 0o37777

theorem witness_InterruptThenReturn :
    linked.config.hasExtendedAddressing = false ∧ linked.rmBit = false ∧ linked.p.toNat < 2 ^ 14 ∧
      linked.config.intVector.toNat < linked.config.memWords ∧ (0o37777 : Word).toNat < linked.config.memWords ∧
      (0o37777 : Word).toNat < 2 ^ 14 ∧ linked.mem.readWord linked.config.intVector.toNat = 0o37777 ∧
      bit (linked.mem.readWord 0o37777) 1 = false ∧ bit (linked.mem.readWord 0o37777) 2 = false :=
  ⟨rfl, rfl, by decide, by decide, by decide, by decide, by decide, by decide, by decide⟩

/-- Sector zero, and the sector of an instruction at the last address: P has wrapped to 0. -/
theorem witness_DirectAddress :
    locateMem ⟨false, true, false, 0o777⟩ (machine [(0, 0o177777)]) = .next ⟨0o776, []⟩ ∧
      locateMem ⟨false, false, true, 0o777⟩ (start.setP 0) = .next ⟨0o37777, []⟩ ∧
      locateX ⟨false, true, 0⟩ (start.setP 0o1001) = .next ⟨0o1000, []⟩ := ⟨rfl, rfl, rfl⟩

/-- The first address of an indirect reference, with and without the index bit, and of LDX*. -/
theorem witness_OneIndirectWord_first :
    locateMem ⟨true, true, false, 0o100⟩ (machine [(0, 1), (0o101, 0o300)]) = .next ⟨0o300, [0o101]⟩ ∧
      locateX ⟨true, false, 0o100⟩ (machine [(0, 1), (0o100, 0o300)]) = .next ⟨0o300, [0o100]⟩ ∧
      locateMem ⟨true, false, true, 0o777⟩ ((machine [(0o37777, 5)]).setP 0) = .next ⟨5, [0o37777]⟩ := ⟨rfl, rfl, rfl⟩

/-- Two levels: the first indirect word is indirect itself, indexed at the second level when PMI = 0. -/
theorem witness_OneIndirectWord_two_levels :
    bit (0o140200 : Word) 1 = true ∧
      resolve true false 0o100 (machine [(0, 2), (0o100, 0o140200), (0o202, 0o300)]) = .next ⟨0o300, [0o100, 0o202]⟩ ∧
      resolve true true 0o100 (extended [(0, 2), (0o100, 0o140200), (0o040200, 0o300)]) =
        .next ⟨0o302, [0o100, 0o040200]⟩ := ⟨rfl, rfl, rfl⟩

/-- The highest address of the mode in each addressing mode, and an indirect word without memory. -/
theorem witness_OneIndirectWord_bounds :
    (0o37777 : Word).toNat < 2 ^ 14 ∧ (0o77777 : Word).toNat < 2 ^ 15 ∧
      wordAt 0o100 (launch { defaultParameters with memWords := 0o100 } []) = .fault (.noMemory 0o100) :=
  ⟨by decide, by decide, rfl⟩

theorem witness_OneIndirectWord_normal :
    start.pmiBit = false ∧ wordAt 0o100 start = .next 0o200 ∧ bit (0o200 : Word) 1 = false ∧
      wordAt (BitVec.ofNat 16 (((0o37777 : Word).toNat + (machine [(0, 1)]).x.toNat) % 2 ^ 14)) (machine [(0, 1)]) =
        .next 1 := ⟨rfl, rfl, rfl, rfl⟩

theorem witness_OneIndirectWord_extended :
    (extended [(0o100, 0o077777)]).pmiBit = true ∧ wordAt 0o100 (extended [(0o100, 0o077777)]) = .next 0o077777 ∧
      bit (0o077777 : Word) 1 = false := ⟨rfl, rfl, rfl⟩

theorem witness_ChainBoundCutsOnlyEndlessChains :
    (0o37777 : Word).toNat < 2 ^ 14 ∧ (0o77777 : Word).toNat < 2 ^ 15 := by decide

/-- A machine whose first read finds bad parity. -/
def badParity : State := (launch fullParameters []).setScript { Script.free with parity := [true, false] }

theorem witness_MemoryReadsTouchOnlyParity :
    badParity.config.hasMemoryParity = true ∧ badParity.mpe = false ∧ (askParity 5 badParity).1 = true ∧
      badParity.script.parity = [true, false] ∧ (afterReads [5, 6] badParity).mpe = true := by decide

theorem witness_CanonicalMemoriesThatReadAlikeAreEqual :
    Memory.wf [(0o400, 1)] ∧ ∀ a, Memory.readWord [(0o400, 1)] a = Memory.readWord [(0o400, 1)] a :=
  ⟨by decide, fun _ => rfl⟩

/-- The operand of the reading, storing and transferring statements: LoadAndAnd, StaStoresA, IndexMovesAndInterchange,
AddSubtractAndExclusiveOr, JmpGoesToTheEffectiveAddress, JstAndIrs, CasSkipsByComparison, and with the option those of
the double-word statements. -/
theorem witness_OperandAt :
    OperandAt ⟨true, false, false, 0o100⟩ start ⟨0o200, [0o100]⟩ ∧ start.rmBit = false ∧
      start.config.hasHsa = true := ⟨⟨rfl, by decide⟩, rfl, rfl⟩

/-- At the last installed word, and X itself. -/
theorem witness_OperandAt_bounds :
    OperandAt ⟨false, false, true, 0o777⟩ (start.setP 0o37777) ⟨0o37777, []⟩ ∧
      OperandAt ⟨false, false, false, 0⟩ start ⟨0, []⟩ := ⟨⟨rfl, by decide⟩, ⟨rfl, by decide⟩⟩

theorem witness_StaStoresA_fetch :
    ∃ u : State, u.mem = start.mem.writeWord 0o200 start.a ∧ u.config = start.config ∧ u.p = 0o200 :=
  ⟨(start.setMem (start.mem.writeWord 0o200 start.a)).setP 0o200, rfl, rfl, rfl⟩

theorem witness_IndexMovesAndInterchange :
    XOperandAt ⟨true, false, 0o100⟩ start ⟨0o200, [0o100]⟩ ∧ start.config.hasIndexLdxStx = true ∧
      (launch { defaultParameters with hasIndexLdxStx := false } []).config.hasIndexLdxStx = false :=
  ⟨⟨rfl, by decide⟩, rfl, rfl⟩

/-- Both words of a double-word operand; at the last address the second word is word 0. -/
theorem witness_DoubleLoadAndStore :
    OperandAt ⟨true, false, false, 0o100⟩ start ⟨0o200, [0o100]⟩ ∧
      (0o201 : Word) = BitVec.ofNat 16 (((0o200 : Word).toNat + 1) % 2 ^ start.aw) ∧
      (0 : Word) = BitVec.ofNat 16 (((0o37777 : Word).toNat + 1) % 2 ^ start.aw) ∧
      (0o201 : Word).toNat < start.config.memWords := ⟨⟨rfl, by decide⟩, rfl, rfl, by decide⟩

/-- With `witness_DoubleLoadAndStore`: a sum and a difference of the number 0 and that of the words 5 and 7. -/
theorem witness_DoubleAddAndSubtract :
    start.config.hasHsa = true ∧
      (dpNum start.a start.b).toInt + (dpNum (start.mem.readWord 0o200) (start.mem.readWord 0o201)).toInt = 163847 ∧
      (dpNum start.a start.b).toInt - (dpNum (start.mem.readWord 0o200) (start.mem.readWord 0o201)).toInt = -163847 := by
  decide

theorem witness_option_absent :
    (launch { defaultParameters with hasHsa := false } []).config.hasHsa = false := rfl

theorem witness_StopsOfTheMemoryInstructions :
    locateMem ⟨true, false, false, 0o100⟩ (launch { defaultParameters with memWords := 1 } []) =
        .fault (.noMemory 0o100) ∧
      locateMem plain (launch { defaultParameters with memWords := 0o100 } []) = .next ⟨0o100, []⟩ ∧
      ¬(0o100 : Word).toNat < (launch { defaultParameters with memWords := 0o100 } []).config.memWords ∧
      OperandAt plain ((launch fullParameters []).setRM true) ⟨0o100, []⟩ ∧
      ((launch fullParameters []).setRM true).rmBit = true := ⟨rfl, rfl, by decide, ⟨rfl, by decide⟩, rfl⟩

/-- LDX and STX without memory, a second word without memory, and stores in restricted mode. -/
theorem witness_StopsOfTheMemoryInstructions_more :
    locateX ⟨true, false, 0o100⟩ (launch { defaultParameters with memWords := 1 } []) = .fault (.noMemory 0o100) ∧
      locateX ⟨false, false, 0o100⟩ (launch { defaultParameters with memWords := 0o100 } []) = .next ⟨0o100, []⟩ ∧
      OperandAt plain (launch { defaultParameters with memWords := 0o101 } []) ⟨0o100, []⟩ ∧
      ¬(0o101 : Word).toNat < (launch { defaultParameters with memWords := 0o101 } []).config.memWords ∧
      locateX ⟨false, false, 0o100⟩ ((launch fullParameters []).setRM true) = .next ⟨0o100, []⟩ :=
  ⟨rfl, rfl, ⟨rfl, by decide⟩, by decide, rfl⟩

/-- The least number by another and by itself. -/
theorem witness_MultiplyIsExact :
    ¬((start.setA 0x8000).a = 0x8000 ∧ (start.setA 0x8000).mem.readWord 0o200 = 0x8000) ∧
      (((machine [(0o100, 0x8000)]).setA 0x8000).a = 0x8000 ∧
        ((machine [(0o100, 0x8000)]).setA 0x8000).mem.readWord 0o100 = 0x8000) ∧
      defaultParameters.mpyMinMin = .draws := by decide

/-- Dividends for each clause: quotients 32767 and -32767, then 32768 and -32769, then -32768; -7 by 2 in the three
roundings. -/
theorem witness_Divide :
    (dpNum 0 0o77777).toInt.tdiv 1 = 32767 ∧ (dpNum 0 0o77777).toInt.tdiv (-1) = -32767 ∧
      (dpNum 1 0).toInt.tdiv 1 = 32768 ∧ (dpNum 0o177776 0o77777).toInt.tdiv 1 = -32769 ∧
      (dpNum 0o177777 0).toInt.tdiv 1 = -32768 ∧
      [Int.tdiv (-7) 2, Int.fdiv (-7) 2, Int.ediv (-7) 2] = [-3, -4, -4] := by decide

theorem witness_DivideIsExactWhereProper :
    OperandAt ⟨true, false, false, 0o100⟩ start ⟨0o200, [0o100]⟩ ∧ (5 : Int) = (start.mem.readWord 0o200).toInt ∧
      (dpNum start.a start.b).toInt.tdiv 5 = 0 ∧ start.config.divFn.rounding = .towardZero ∧
      start.config.divFn.exceptions = [] := ⟨⟨rfl, by decide⟩, by decide, by decide, rfl, rfl⟩

/-- Division of 7 by 2 answered apart: as 4 and a remainder of -1, and as improper. -/
def apart (result : Option (Int × Int)) : State :=
  ((launch { defaultParameters with
      divFn := { defaultParameters.divFn with exceptions := [⟨7, 2, result⟩] } } [(0o100, 2)]).setA 0).setB 7

/-- The operands of `apart` are the ones answered apart, and its DIV is what the parameter says. -/
theorem witness_DivideIsExactWhereProper_apart :
    OperandAt plain (apart (some (4, -1))) ⟨0o100, []⟩ ∧ (2 : Int) = ((apart none).mem.readWord 0o100).toInt ∧
      (apart none).config.divFn.exceptions.find?
        (fun e => e.dividend == dpNum (apart none).a (apart none).b &&
          e.divisor == (apart none).mem.readWord 0o100) = some ⟨7, 2, none⟩ ∧
      regsAfter 0o036100 (apart (some (4, -1))) = some (0o1001, 4, 0o177777, false) ∧
      (regsAfter 0o036100 (apart none)).map (fun r => r.2.2.2) = some true :=
  ⟨⟨rfl, by decide⟩, by decide, by decide, by decide, by decide⟩

/-- A dividend of -32768 and a divisor of 1, under each value of the parameter. -/
def atLimit (v : DivMinQuotient) : State :=
  ((launch { defaultParameters with divFn := { rounding := .towardZero, atLimit := v, exceptions := [] } }
      [(0o100, 1)]).setA 0o177777).setB 0

theorem witness_DivideAtTheLimit (v : DivMinQuotient) :
    OperandAt plain (atLimit v) ⟨0o100, []⟩ ∧ (1 : Int) = ((atLimit v).mem.readWord 0o100).toInt ∧
      (dpNum (atLimit v).a (atLimit v).b).toInt.tdiv 1 = -32768 ∧ (atLimit v).config.divFn.atLimit = v ∧
      (atLimit v).config.divFn.rounding = .towardZero ∧
      (atLimit v).config.divFn.exceptions.find?
        (fun e => e.dividend == dpNum (atLimit v).a (atLimit v).b && e.divisor == (atLimit v).mem.readWord 0o100) = none ∧
      (atLimit v).config.hasHsa = true := by
  cases v <;> exact ⟨⟨rfl, by decide⟩, by decide, by decide, rfl, rfl, rfl, rfl⟩

theorem witness_PlacesOfAShift (v : ShiftFieldZero) :
    (launch { defaultParameters with shiftFieldZero := v } []).config.shiftFieldZero = v ∧ (63 : BitVec 6) ≠ 0 :=
  ⟨rfl, by decide⟩

/-- 1, 63, 0 and 64 places. -/
theorem witness_shiftPlaces :
    shiftPlaces 63 start = some 1 ∧ shiftPlaces 1 start = some 63 ∧
      shiftPlaces 0 (launch { defaultParameters with shiftFieldZero := .noPlaces } []) = some 0 ∧
      shiftPlaces 0 (launch { defaultParameters with shiftFieldZero := .sixtyFour } []) = some 64 := by decide

theorem witness_NormaliseShiftsUntilTheFirstTwoBitsDiffer :
    unnormalisable 0 1 = false ∧ start.config.hasHsa = true ∧ start.config.nrmFn.limit = .refuse ∧
      unnormalisable 0o177777 0o77776 = false := by decide

theorem witness_NormaliseOfAUniformNumber :
    unnormalisable 0 0o100000 = true ∧ unnormalisable 0o177777 0o77777 = true ∧ start.config.nrmFn.limit = .refuse ∧
      State.reset.config.nrmFn.limit ≠ .refuse ∧ State.reset.config.hasHsa = true ∧
      (limited 30).config.nrmFn.limit = .limit 30 ∧ (limited 30).config.hasHsa = true ∧
      dpNum 0o177777 0o77777 ≠ 0 := by decide

/-- JST through a direct link word, then an indirect JMP through it. -/
theorem witness_CallThenReturn :
    OperandAt plain (machine []) ⟨0o100, []⟩ ∧ (machine []).p.toNat < 2 ^ (machine []).aw ∧
      bit ((machine []).mem.readWord 0o100) 1 = false ∧ bit ((machine []).mem.readWord 0o100) 2 = false ∧
      ∃ t, exec (.jst plain) (machine []) = .next t ∧ firstAddress false 0o100 t = 0o100 :=
  ⟨⟨rfl, by decide⟩, by decide, by decide, by decide, _, rfl, rfl⟩

/-- The three outcomes of CAS on the word 5. -/
theorem witness_CasSkipsByComparison :
    ((start.setA 6).a.toInt > (start.mem.readWord 0o200).toInt) ∧
      ((start.setA 5).a.toInt = (start.mem.readWord 0o200).toInt) ∧
      ((start.setA 0x8000).a.toInt < (start.mem.readWord 0o200).toInt) := by decide

theorem witness_SkipsOnTheSenseSwitches :
    askSwitches switched = (⟨false, true, false, true⟩, switched) ∧ switched.switchesFixed = true := ⟨rfl, rfl⟩

theorem witness_ParityAndAddressingModeInstructions :
    parityMachine.config.hasMemoryParity = true ∧ start.config.hasMemoryParity = false ∧
      parityMachine.config.hasExtendedAddressing = true ∧ start.config.hasExtendedAddressing = false ∧
      (parityMachine.setP 0o37777).p.toNat < 2 ^ 14 ∧ 2 ^ 14 ≤ (parityMachine.setP 0o40000).p.toNat := by decide

/-- A machine with neither the arithmetic nor the extended addressing option, the value `v` in A. -/
def bare (v : Word) : State := (launch { defaultParameters with hasHsa := false } []).setA v

/-- The four clauses in turn, the last at the last address of 14 bits. -/
theorem witness_OtkScattersTheKeys :
    ((bare 0o040000).config.hasHsa = false ∧ bit (bare 0o040000).a 2 = true) ∧
      (bit (bare 0o020000).a 2 = false ∧ (bare 0o020000).config.hasExtendedAddressing = false ∧
        bit (bare 0o020000).a 3 = true) ∧
      ((extended []).config.hasHsa = true ∧ ((extended []).setP 0o40000).pmiBit = true ∧
        bit ((extended []).setP 0o40000).a 3 = false ∧ 2 ^ 14 ≤ ((extended []).setP 0o40000).p.toNat) ∧
      ((extended []).config.hasExtendedAddressing = true ∧ ((extended []).setP 0o37777).p.toNat < 2 ^ 14) := by decide

theorem witness_RestrictedModeStopsEveryStep :
    ((launch fullParameters []).setRM true).config.hasMemoryLockout = true ∧
      ((launch fullParameters []).setRM true).run = true ∧ ((launch fullParameters []).setRM true).rm = true ∧
      start.config.hasMemoryLockout = false := by decide

theorem witness_input_output :
    (askSense 0 0o04 ready).1 = true ∧ (askInput 0o10 0o04 ready).1 = (true, 0o301) ∧
      (askOutput 0 0o04 0o140000 ready).1 = true ∧ unanswered teletypeDevice deaf = true := by decide

/-- Instructions that answer a next state: for IndicatorsHaveTheirWritersOnly, OnlyStoresChangeMemory,
RegistersHaveTheirWritersOnly and OnlyTransfersAndSkipsChangeP. -/
theorem witness_exec_next :
    (∃ t, exec .cra start = .next t) ∧ (∃ t, exec (.sta ⟨true, false, false, 0o100⟩) start = .next t) ∧
      (∃ t, exec (.dst plain) start = .next t) ∧ (∃ t, exec (.ldx ⟨false, false, 0o100⟩) start = .next t) ∧
      ∃ t, exec (.irs plain) start = .next t := ⟨⟨_, rfl⟩, ⟨_, rfl⟩, ⟨_, rfl⟩, ⟨_, rfl⟩, ⟨_, rfl⟩⟩

theorem witness_OnlyStoresChangeMemory :
    locateMem ⟨true, false, false, 0o100⟩ start = .next ⟨0o200, [0o100]⟩ ∧
      locateX ⟨false, false, 0o100⟩ start = .next ⟨0o100, []⟩ := ⟨rfl, rfl⟩

end Sys2Proof.Tests
end

section
/-! The memory-reference instructions up to their own effect: the fields and the decoding of an assembled word, the
access to an operand that has been located, and the bytes a store leaves alone. -/

namespace Sys2Proof.Machine

/-! ### Words (R71 to R73) -/

@[simp] theorem fieldOp_mrWord (op : BitVec 4) (m : MemRef) : fieldOp (mrWord op m) = op := by
  ext k hk
  simp only [fieldOp, mrWord, BitVec.getElem_extractLsb', BitVec.getLsbD_append]
  interval_cases k <;> simp

@[simp] theorem fieldD_mrWord (op : BitVec 4) (m : MemRef) : fieldD (mrWord op m) = m.disp := by
  ext k hk
  simp only [fieldD, mrWord, BitVec.getElem_extractLsb', BitVec.getLsbD_append]
  simp [hk]

@[simp] theorem fieldMemRef_mrWord (op : BitVec 4) (m : MemRef) : fieldMemRef (mrWord op m) = m := by
  have hi : bit (mrWord op m) 1 = m.indirect := by
    simp only [bit, mrWord, BitVec.getLsbD_append]; simp
  have ht : bit (mrWord op m) 2 = m.indexed := by
    simp only [bit, mrWord, BitVec.getLsbD_append]; simp
  have hs : bit (mrWord op m) 7 = m.sector := by
    simp only [bit, mrWord, BitVec.getLsbD_append]; simp
  rw [fieldMemRef, hi, ht, hs, fieldD_mrWord]

/-- A word whose op code is neither '00 nor '14 is decoded as a memory-reference word (R71, R72). -/
theorem decode_mrWord {dp : Bool} {op : BitVec 4} {m : MemRef} {i : Instr} (hzero : op ≠ 0o00) (hio : op ≠ 0o14)
    (h : decodeMr dp (mrWord op m) = some i) : decode dp (mrWord op m) = .ok i := by
  have hrow : decodeRow dp (mrWord op m) = some i := by
    rw [decodeRow, fieldOp_mrWord, if_neg hzero, if_neg hio, h]
  rw [decode, hrow]

/-! ### Access to a located operand (R54, R55, R59) -/

/-- An effective address that can be formed is handed on, after the reads of its chain. -/
theorem withAddress_of_next {place : Result Located} {s : State} {r : Located} (hplace : place = .next r)
    (k : Word → State → Result State) : withAddress place s k = k r.ea (afterReads r.path s) := by
  rw [withAddress, hplace, andThen_next]

/-- An operand in installed memory is handed on, after the reads of its chain and of the operand itself. -/
theorem withOperand_of_installed {place : Result Located} {s : State} {r : Located} (hplace : place = .next r)
    (hmem : r.ea.toNat < s.config.memWords) (k : Word → Word → State → Result State) :
    withOperand place s k = k r.ea (s.mem.readWord r.ea.toNat) (afterReads (r.path ++ [r.ea]) s) := by
  rw [withOperand, hplace, andThen_next, wordAt_of_lt hmem, andThen_next]

/-! ### What a store leaves alone (R56) -/

/-- A store of a word changes the two bytes of that word alone. -/
theorem sameBytesOutside_writeWord (m : Memory) (a : Nat) (v : Word) : SameBytesOutside a m (m.writeWord a v) := by
  intro k hleft hright
  rw [Memory.writeWord, Memory.readByte_writeByte, if_neg hright, Memory.readByte_writeByte, if_neg hleft]

/-- A fetch at a word just stored in installed memory reads what was stored. -/
theorem fetch_of_stored {u : State} {m : Memory} {v : Word} (hmem : u.mem = m.writeWord u.p.toNat v)
    (hp : u.p.toNat < u.config.memWords) : fetch u = .next v :=
  fetch_eq_next.2 ⟨hp, by rw [hmem, Memory.readWord_writeWord_same]⟩

end Sys2Proof.Machine
end

section
/-! The load and store instructions of 40_load_store.md, with ANA of 43_logical.md and NOP of 45_control.md. -/

namespace Sys2Proof.Machine

/-! ### The dispatch -/

theorem exec_lda (m : MemRef) (s : State) : exec (.lda m) s = execLda m s := rfl
theorem exec_ana (m : MemRef) (s : State) : exec (.ana m) s = execAna m s := rfl
theorem exec_sta (m : MemRef) (s : State) : exec (.sta m) s = execSta m s := rfl
theorem exec_sca (s : State) : exec .sca s = execSca s := rfl
theorem exec_nop (s : State) : exec .nop s = execNop s := rfl

/-! ### LDA, ANA and STA -/

/-- The words of LDA are LDA's when DP = 0 (R77). -/
theorem decode_encode_lda (m : MemRef) : decode false (encode (.lda m)) = .ok (.lda m) :=
  decode_mrWord (op := 0o02) (by decide) (by decide) (by simp [decodeMr])

/-- The words of STA are STA's when DP = 0 (R77). -/
theorem decode_encode_sta (m : MemRef) : decode false (encode (.sta m)) = .ok (.sta m) :=
  decode_mrWord (op := 0o04) (by decide) (by decide) (by simp [decodeMr])

section
variable {m : MemRef} {s : State} {r : Located}

theorem exec_lda_of_operandAt (h : OperandAt m s r) :
    exec (.lda m) s = .next ((afterReads (r.path ++ [r.ea]) s).setA (s.mem.readWord r.ea.toNat)) := by
  obtain ⟨hplace, hmem⟩ := h
  rw [exec_lda, execLda, withOperand_of_installed hplace hmem]

theorem exec_ana_of_operandAt (h : OperandAt m s r) :
    exec (.ana m) s = .next ((afterReads (r.path ++ [r.ea]) s).setA (s.a &&& s.mem.readWord r.ea.toNat)) := by
  obtain ⟨hplace, hmem⟩ := h
  rw [exec_ana, execAna, withOperand_of_installed hplace hmem, afterReads_a]

/-- The reads of STA's chain change neither A, nor the memory, nor whether a store is allowed. -/
theorem exec_sta_of_operandAt (h : OperandAt m s r) (hrm : s.rmBit = false) :
    exec (.sta m) s = .next ((afterReads r.path s).setMem (s.mem.writeWord r.ea.toNat s.a)) := by
  obtain ⟨hplace, hmem⟩ := h
  have hstore : memWrite r.ea s.a (afterReads r.path s) =
      .next ((afterReads r.path s).setMem ((afterReads r.path s).mem.writeWord r.ea.toNat s.a)) :=
    memWrite_of_installed (by rwa [afterReads_rmBit]) (by rwa [afterReads_config])
  rw [exec_sta, execSta, withAddress_of_next hplace, afterReads_a, hstore, afterReads_mem]

end

/-! ### SCA -/

/-- The five bits of SC in the low end of a word, with the eleven bits above them zero. -/
theorem setWidth_shiftCount (v : BitVec 5) : v.setWidth 16 = (0 : BitVec 11) ++ v :=
  BitVec.setWidth_eq_append (w := 16) (by decide)

theorem exec_sca_of_hasHsa {s : State} (h : s.config.hasHsa = true) :
    exec .sca s = .next (s.setA ((0 : BitVec 11) ++ s.sc)) := by
  rw [exec_sca, execSca, h, needs_true, setWidth_shiftCount]

theorem exec_sca_of_not_hasHsa {s : State} (h : s.config.hasHsa = false) :
    exec .sca s = .refused (.optionAbsent .highSpeedArithmetic) := by
  rw [exec_sca, execSca, h, needs_false]

/-! ### The statements -/

/-- Settles O20: the located operand is read and goes to A, or into A. -/
theorem loadAndAnd : Obligations.LoadAndAnd := by
  unfold Obligations.LoadAndAnd
  exact ⟨fun m _ _ h => ⟨decode_encode_lda m, exec_lda_of_operandAt h⟩,
    fun m _ _ h => ⟨fieldOp_mrWord 0o03 m, exec_ana_of_operandAt h⟩⟩

/-- Settles O21: the exact next state of STA, and what a write of a word does to memory. -/
theorem staStoresA : Obligations.StaStoresA := by
  unfold Obligations.StaStoresA
  intro m s r h hrm
  refine ⟨decode_encode_sta m, exec_sta_of_operandAt h hrm, Memory.readWord_writeWord_same _ _ _,
    sameBytesOutside_writeWord _ _ _, fun u hmem hconfig hp => ?_⟩
  have hinstalled : u.p.toNat < u.config.memWords := by rw [hp, hconfig]; exact h.2
  exact fetch_of_stored (by rw [hp, hmem]) hinstalled

/-- Settles O25: SCA widens SC with zeros where its option is present, NOP answers its own state. -/
theorem scaAndNop : Obligations.ScaAndNop := by
  unfold Obligations.ScaAndNop
  exact ⟨⟨rfl, fun _ => ⟨exec_sca_of_hasHsa, exec_sca_of_not_hasHsa⟩⟩, rfl, exec_nop⟩

end Sys2Proof.Machine
end

section
/-! The half-word instructions of 41_half_word.md that move the halves of A: the model shifts and masks, the statement
speaks of the two halves of a word. -/

namespace Sys2Proof.Machine

/-! ### The dispatch -/

theorem exec_ica (s : State) : exec .ica s = execIca s := rfl
theorem exec_icl (s : State) : exec .icl s = execIcl s := rfl
theorem exec_icr (s : State) : exec .icr s = execIcr s := rfl

/-! ### The halves of a word -/

/-- A shift of a word by eight places to the right leaves its left half in the right one, below zeros. -/
theorem leftHalf_moved_right (w : Word) : w >>> 8 = (0 : BitVec 8) ++ w.extractLsb' 8 8 :=
  BitVec.ushiftRight_eq_extractLsb'_of_lt (by decide)

/-- The mask is redundant for the result: the bits it clears are those the shift drops. -/
theorem rightHalf_moved_left (w : Word) : (w &&& 0x00FF) <<< 8 = w.extractLsb' 0 8 ++ (0 : BitVec 8) := by
  have hshift : (w &&& 0x00FF) <<< 8 = (w &&& 0x00FF).extractLsb' 0 8 ++ (0 : BitVec 8) :=
    BitVec.shiftLeft_eq_concat_of_lt (by decide)
  have hmask : (0x00FF : Word).extractLsb' 0 8 = BitVec.allOnes 8 := rfl
  rw [hshift, BitVec.extractLsb'_and, hmask, BitVec.and_allOnes]

/-- The two moved halves do not overlap, so their union is the word with its halves interchanged. -/
theorem halves_interchanged (w : Word) :
    ((w &&& 0x00FF) <<< 8) ||| (w >>> 8) = w.extractLsb' 0 8 ++ w.extractLsb' 8 8 :=
  calc ((w &&& 0x00FF) <<< 8) ||| (w >>> 8)
      = (w.extractLsb' 0 8 ++ (0 : BitVec 8)) ||| ((0 : BitVec 8) ++ w.extractLsb' 8 8) := by
        rw [rightHalf_moved_left, leftHalf_moved_right]
    _ = (w.extractLsb' 0 8 ||| 0) ++ (0 ||| w.extractLsb' 8 8) := BitVec.or_append
    _ = w.extractLsb' 0 8 ++ w.extractLsb' 8 8 := by rw [BitVec.ofNat_eq_ofNat, BitVec.or_zero, BitVec.zero_or]

/-! ### The instructions (R122 to R124) -/

theorem exec_ica_eq (s : State) : exec .ica s = .next (s.setA (s.a.extractLsb' 0 8 ++ s.a.extractLsb' 8 8)) := by
  rw [exec_ica, execIca, halves_interchanged]

theorem exec_icl_eq (s : State) : exec .icl s = .next (s.setA ((0 : BitVec 8) ++ s.a.extractLsb' 8 8)) := by
  rw [exec_icl, execIcl, leftHalf_moved_right]

theorem exec_icr_eq (s : State) : exec .icr s = .next (s.setA (s.a.extractLsb' 0 8 ++ (0 : BitVec 8))) := by
  rw [exec_icr, execIcr, rightHalf_moved_left]

/-! ### The statement -/

/-- Settles O27: the three words, and the exact next state of each instruction in terms of the halves of A. -/
theorem halfWordInterchanges : Obligations.HalfWordInterchanges := by
  unfold Obligations.HalfWordInterchanges
  exact ⟨rfl, rfl, rfl, fun s => ⟨exec_ica_eq s, exec_icl_eq s, exec_icr_eq s⟩⟩

end Sys2Proof.Machine
end

section
/-! The arithmetic instructions of 42_arithmetic.md that work on A alone, TCA and CSA: the model goes through signed
values and a mask, the statement speaks of the unsigned value of A and of its sign bit. -/

namespace Sys2Proof.Machine

/-! ### The dispatch -/

theorem exec_tca (s : State) : exec .tca s = execTca s := rfl
theorem exec_csa (s : State) : exec .csa s = execCsa s := rfl

/-! ### The negative of a word and the word without its sign -/

/-- Negating the signed value and writing it back is the negation of words, also for '100000, whose negative does not
fit (R9). -/
theorem u16_neg_s16 (w : Word) : u16 (-s16 w) = -w := by
  rw [u16, s16, BitVec.ofInt_neg, BitVec.ofInt_toInt]

theorem neg_word_eq_ofNat (w : Word) : -w = BitVec.ofNat 16 ((65536 - w.toNat) % 65536) :=
  BitVec.eq_of_toNat_eq (by rw [BitVec.toNat_neg, BitVec.toNat_ofNat, Nat.mod_mod])

/-- The mask of bits 2 to 16 clears the sign and keeps the rest: word and mask are split behind bit 1. -/
theorem and_7FFF_eq_append (w : Word) : w &&& 0x7FFF = (0 : BitVec 1) ++ w.extractLsb' 0 15 :=
  calc w &&& 0x7FFF
      = (w.extractLsb' 15 1 ++ w.extractLsb' 0 15) &&& ((0 : BitVec 1) ++ BitVec.allOnes 15) :=
        congrArg (· &&& 0x7FFF) (BitVec.extractLsb'_append_extractLsb' (w := 1) (len := 15)).symm
    _ = (w.extractLsb' 15 1 &&& 0) ++ (w.extractLsb' 0 15 &&& BitVec.allOnes 15) := BitVec.and_append
    _ = (0 : BitVec 1) ++ w.extractLsb' 0 15 := by rw [BitVec.ofNat_eq_ofNat, BitVec.and_zero, BitVec.and_allOnes]

/-! ### The instructions (R142, R153) -/

theorem exec_tca_eq (s : State) :
    exec .tca s = .next (s.setA (BitVec.ofNat 16 ((65536 - s.a.toNat) % 65536))) := by
  rw [exec_tca, execTca, u16_neg_s16, neg_word_eq_ofNat]

theorem exec_csa_eq (s : State) :
    exec .csa s = .next ((s.setC (bit s.a 1)).setA ((0 : BitVec 1) ++ s.a.extractLsb' 0 15)) := by
  rw [exec_csa, execCsa, and_7FFF_eq_append]

/-! ### The statement -/

/-- Settles O34: the two words, and the exact next state of each instruction. -/
theorem tcaAndCsa : Obligations.TcaAndCsa := by
  unfold Obligations.TcaAndCsa
  exact ⟨⟨rfl, exec_tca_eq⟩, rfl, exec_csa_eq⟩

end Sys2Proof.Machine
end

section
/-! JMP, INK, SGL and DBL of 45_control.md: the exact next state of each, the fields of the word that INK leaves in A,
and the decoding of the words that DP tells apart after SGL and DBL. -/

namespace Sys2Proof.Machine

/-! ### The dispatch -/

theorem exec_jmp (m : MemRef) (s : State) : exec (.jmp m) s = execJmp m s := rfl
theorem exec_ink (s : State) : exec .ink s = execInk s := rfl
theorem exec_sgl (s : State) : exec .sgl s = execSgl s := rfl
theorem exec_dbl (s : State) : exec .dbl s = execDbl s := rfl

/-! ### JMP (R181) -/

theorem exec_jmp_of_located {m : MemRef} {s : State} {r : Located} (h : locateMem m s = .next r) :
    exec (.jmp m) s = .next ((afterReads r.path s).setP r.ea) := by
  rw [exec_jmp, execJmp, jumpTo_eq_next.2 ⟨r, h, rfl⟩]

/-! ### The fields of the keys word (R227) -/

theorem bit_one_keysWord (s : State) : bit (keysWord s) 1 = s.c := by
  simp only [bit, keysWord, BitVec.getLsbD_append]; simp

theorem bit_two_keysWord (s : State) : bit (keysWord s) 2 = s.dpBit := by
  simp only [bit, keysWord, BitVec.getLsbD_append]; simp

theorem bit_three_keysWord (s : State) : bit (keysWord s) 3 = s.pmiBit := by
  simp only [bit, keysWord, BitVec.getLsbD_append]; simp

/-- The word ends in eight zeros and SC, so each of these two fields is one of the parts it is put together from. -/
theorem keysWord_middle (s : State) : (keysWord s).extractLsb' 5 8 = 0 := by
  rw [keysWord, BitVec.extractLsb'_append_eq_of_le (by decide), BitVec.extractLsb'_append_eq_right]

theorem keysWord_low (s : State) : (keysWord s).extractLsb' 0 5 = s.sc := by
  rw [keysWord, BitVec.extractLsb'_append_eq_right]

/-! ### SGL and DBL (R229, R230) -/

section
variable {s : State}

theorem exec_sgl_of_hasHsa (h : s.config.hasHsa = true) : exec .sgl s = .next (s.setDP false) := by
  rw [exec_sgl, execSgl, h, needs_true]

theorem exec_dbl_of_hasHsa (h : s.config.hasHsa = true) : exec .dbl s = .next (s.setDP true) := by
  rw [exec_dbl, execDbl, h, needs_true]

theorem exec_sgl_of_not_hasHsa (h : s.config.hasHsa = false) :
    exec .sgl s = .refused (.optionAbsent .highSpeedArithmetic) := by
  rw [exec_sgl, execSgl, h, needs_false]

theorem exec_dbl_of_not_hasHsa (h : s.config.hasHsa = false) :
    exec .dbl s = .refused (.optionAbsent .highSpeedArithmetic) := by
  rw [exec_dbl, execDbl, h, needs_false]

/-- With the option the mode is what was last written to DP (R30). -/
theorem dpBit_setDP_of_hasHsa (h : s.config.hasHsa = true) (v : Bool) : (s.setDP v).dpBit = v := by
  rw [State.setDP_dpBit, h, Bool.true_and]

end

/-! ### The words that DP tells apart (R77): LDA and STA are above -/

theorem decode_encode_add (m : MemRef) : decode false (encode (.add m)) = .ok (.add m) :=
  decode_mrWord (op := 0o06) (by decide) (by decide) (by simp [decodeMr])

theorem decode_encode_sub (m : MemRef) : decode false (encode (.sub m)) = .ok (.sub m) :=
  decode_mrWord (op := 0o07) (by decide) (by decide) (by simp [decodeMr])

theorem decode_encode_lda_double (m : MemRef) : decode true (encode (.lda m)) = .ok (.dld m) :=
  decode_mrWord (op := 0o02) (by decide) (by decide) (by simp [decodeMr])

theorem decode_encode_sta_double (m : MemRef) : decode true (encode (.sta m)) = .ok (.dst m) :=
  decode_mrWord (op := 0o04) (by decide) (by decide) (by simp [decodeMr])

theorem decode_encode_add_double (m : MemRef) : decode true (encode (.add m)) = .ok (.dad m) :=
  decode_mrWord (op := 0o06) (by decide) (by decide) (by simp [decodeMr])

theorem decode_encode_sub_double (m : MemRef) : decode true (encode (.sub m)) = .ok (.dsb m) :=
  decode_mrWord (op := 0o07) (by decide) (by decide) (by simp [decodeMr])

/-! ### The statements -/

/-- Settles O44: the op code is that of the assembled word, and the located address goes to P. -/
theorem jmpGoesToTheEffectiveAddress : Obligations.JmpGoesToTheEffectiveAddress := by
  unfold Obligations.JmpGoesToTheEffectiveAddress
  exact fun m _ _ h => ⟨fieldOp_mrWord 0o01 m, exec_jmp_of_located h⟩

/-- Settles O52: INK leaves the keys word in A, whose fields are as claimed; SGL and DBL set the mode that the decoder
goes by, where their option is present. -/
theorem inkSglAndDbl : Obligations.InkSglAndDbl := by
  unfold Obligations.InkSglAndDbl
  refine ⟨⟨rfl, fun s => ⟨keysWord s, exec_ink s, bit_one_keysWord s, bit_two_keysWord s, bit_three_keysWord s,
    keysWord_middle s, keysWord_low s⟩⟩, rfl, rfl, fun s => ⟨fun h => ⟨exec_sgl_of_hasHsa h, exec_dbl_of_hasHsa h⟩,
    fun h => ⟨exec_sgl_of_not_hasHsa h, exec_dbl_of_not_hasHsa h⟩, fun m h => ?_⟩⟩
  rw [dpBit_setDP_of_hasHsa h false, dpBit_setDP_of_hasHsa h true]
  exact ⟨decode_encode_lda m, decode_encode_sta m, decode_encode_add m, decode_encode_sub m,
    decode_encode_lda_double m, decode_encode_sta_double m, decode_encode_add_double m, decode_encode_sub_double m⟩

end Sys2Proof.Machine
end

section
/-! The decoder and the encoder (R71 to R79, R86 to R91): a word is put together from its fields, and each format's
decoder inverts that format's word. -/

namespace Sys2Proof.Machine

/-! ### The outcomes of decoding (R72, R91) -/

theorem decode_eq_ok {dp : Bool} {w : Word} {i : Instr} : decode dp w = .ok i ↔ decodeRow dp w = some i := by
  unfold decode; split <;> simp_all

theorem decode_eq_unlisted {dp : Bool} {w : Word} :
    decode dp w = .error (.unlistedEncoding w) ↔ decodeRow dp w = none := by
  unfold decode; split <;> simp_all

theorem decodeRow_of_zeroOp {w : Word} (h : fieldOp w = 0) (dp : Bool) : decodeRow dp w = decodeZeroOp w := if_pos h

theorem decodeRow_of_ioOp {w : Word} (h : fieldOp w = 0o14) (dp : Bool) : decodeRow dp w = decodeIo w := by
  rw [decodeRow, if_neg (by rw [h]; decide), if_pos h]

theorem decodeRow_of_mrOp {w : Word} (hzero : fieldOp w ≠ 0) (hio : fieldOp w ≠ 0o14) (dp : Bool) :
    decodeRow dp w = decodeMr dp w := by
  rw [decodeRow, if_neg hzero, if_neg hio]

/-! ### Tables of whole words (R87, R88) -/

theorem lookupWord_mem {table : List (Word × Instr)} {w : Word} {i : Instr} (h : lookupWord table w = some i) :
    (w, i) ∈ table := by
  obtain ⟨⟨v, j⟩, hrow, rfl⟩ := Option.map_eq_some_iff.1 h
  obtain rfl : v = w := by simpa using List.find?_some hrow
  exact List.mem_of_find?_eq_some hrow

theorem lookupWord_eq_none {table : List (Word × Instr)} {w : Word} :
    lookupWord table w = none ↔ w ∉ table.map Prod.fst := by
  simp only [lookupWord, Option.map_eq_none_iff, List.find?_eq_none, List.mem_map, beq_iff_eq]
  exact ⟨fun h ⟨row, hrow, hw⟩ => h row hrow hw, fun h row hrow hw => h ⟨row, hrow, hw⟩⟩

/-- The words that are listed whole, of all three groups. -/
def genericWords : List (Word × Instr) := lowGenericWords ++ highGenericWords ++ skipWords

theorem decodeZeroOp_of_generic :
    ∀ row ∈ genericWords, fieldOp row.1 = 0 ∧ decodeZeroOp row.1 = some row.2 := by decide

theorem encode_of_generic :
    ∀ row ∈ genericWords, encode row.2 = row.1 ∧ row.2.wf = true ∧ ∀ dp, row.2.selectedBy dp = true := by decide

theorem decode_generic {w : Word} {i : Instr} (h : (w, i) ∈ genericWords) (dp : Bool) : decode dp w = .ok i := by
  obtain ⟨hop, hrow⟩ := decodeZeroOp_of_generic _ h
  rw [decode_eq_ok, decodeRow_of_zeroOp hop, hrow]

/-! ### The fields of an assembled word -/

section
variable (t : Bool) (x : XRef)

@[simp] theorem fieldOp_xrWord : fieldOp (xrWord t x) = 0o15 := by
  ext k hk
  simp only [fieldOp, xrWord, BitVec.getElem_extractLsb', BitVec.getLsbD_append]
  interval_cases k <;> simp

@[simp] theorem bit_two_xrWord : bit (xrWord t x) 2 = t := by
  simp only [bit, xrWord, BitVec.getLsbD_append]; simp

@[simp] theorem fieldXRef_xrWord : fieldXRef (xrWord t x) = x := by
  have hi : bit (xrWord t x) 1 = x.indirect := by
    simp only [bit, xrWord, BitVec.getLsbD_append]; simp
  have hs : bit (xrWord t x) 7 = x.sector := by
    simp only [bit, xrWord, BitVec.getLsbD_append]; simp
  have hd : fieldD (xrWord t x) = x.disp := BitVec.extractLsb'_append_eq_right
  rw [fieldXRef, hi, hs, hd]

end

section
variable (left aAlone : Bool) (k : BitVec 2) (nf : BitVec 6)

@[simp] theorem fieldOp_shWord : fieldOp (shWord left aAlone k nf) = 0 := by
  ext j hj
  simp only [fieldOp, shWord, BitVec.getElem_extractLsb', BitVec.getLsbD_append]
  interval_cases j <;> simp

@[simp] theorem fieldHi2_shWord : fieldHi2 (shWord left aAlone k nf) = 1 := by
  ext j hj
  simp only [fieldHi2, shWord, BitVec.getElem_extractLsb', BitVec.getLsbD_append]
  interval_cases j <;> simp

@[simp] theorem bit_seven_shWord : bit (shWord left aAlone k nf) 7 = left := by
  simp only [bit, shWord, BitVec.getLsbD_append]; simp

@[simp] theorem bit_eight_shWord : bit (shWord left aAlone k nf) 8 = aAlone := by
  simp only [bit, shWord, BitVec.getLsbD_append]; simp

@[simp] theorem fieldK_shWord : fieldK (shWord left aAlone k nf) = k := by
  ext j hj
  simp only [fieldK, shWord, BitVec.getElem_extractLsb', BitVec.getLsbD_append]
  interval_cases j <;> simp

@[simp] theorem fieldNF_shWord : fieldNF (shWord left aAlone k nf) = nf := BitVec.extractLsb'_append_eq_right

end

section
variable (hi2 : BitVec 2) (code : IoCode)

@[simp] theorem fieldOp_ioWord : fieldOp (ioWord hi2 code) = 0o14 := by
  ext j hj
  simp only [fieldOp, ioWord, BitVec.getElem_extractLsb', BitVec.getLsbD_append]
  interval_cases j <;> simp

@[simp] theorem fieldHi2_ioWord : fieldHi2 (ioWord hi2 code) = hi2 := by
  ext j hj
  simp only [fieldHi2, ioWord, BitVec.getElem_extractLsb', BitVec.getLsbD_append]
  interval_cases j <;> simp

@[simp] theorem fieldIo_ioWord : fieldIo (ioWord hi2 code) = code := by
  have hf : (ioWord hi2 code).extractLsb' 6 4 = code.f := by
    rw [ioWord, BitVec.extractLsb'_append_eq_of_le (by decide), BitVec.extractLsb'_append_eq_right]
  have hd : (ioWord hi2 code).extractLsb' 0 6 = code.d := BitVec.extractLsb'_append_eq_right
  rw [fieldIo, hf, hd]

end

/-! ### Each format's decoder on that format's word -/

theorem decode_xrWord (dp t : Bool) (x : XRef) : decode dp (xrWord t x) = .ok (if t then .ldx x else .stx x) := by
  rw [decode_eq_ok, decodeRow_of_mrOp (by simp) (by simp), decodeMr]
  simp

theorem decode_shWord {left aAlone : Bool} {k : BitVec 2} {nf : BitVec 6} {i : Instr}
    (h : decodeShift (shWord left aAlone k nf) = some i) (dp : Bool) :
    decode dp (shWord left aAlone k nf) = .ok i := by
  rw [decode_eq_ok, decodeRow_of_zeroOp (by simp), decodeZeroOp, fieldHi2_shWord]
  exact h

theorem decode_ioWord {hi2 : BitVec 2} {code : IoCode} {i : Instr} (h : decodeIo (ioWord hi2 code) = some i)
    (dp : Bool) : decode dp (ioWord hi2 code) = .ok i := by
  rw [decode_eq_ok, decodeRow_of_ioOp (by simp), h]

/-- A well-formed OTA is none of the op '74 words with a meaning of their own (R79). -/
theorem decodeOutput_ota {code : IoCode} (h : (Instr.ota code).wf = true) :
    decodeOutput (ioWord 3 code) = some (.ota code) := by
  obtain ⟨hmask, hmask2⟩ : code.d ≠ maskDevice ∧ code.d ≠ mask2Device := by simpa [Instr.wf] using h
  rw [decodeOutput, fieldIo_ioWord, if_neg hmask, if_neg hmask2]

/-! ### A word is put together from its fields -/

theorem mrWord_fields (w : Word) : mrWord (fieldOp w) (fieldMemRef w) = w := by
  have hsplit : BitVec.ofBool (bit w 1) ++ BitVec.ofBool (bit w 2) ++ fieldOp w ++ BitVec.ofBool (bit w 7) ++
      fieldD w = w := by
    ext k hk
    simp only [fieldOp, fieldD, bit, BitVec.getElem_append]
    interval_cases k <;> simp [BitVec.getLsbD_eq_getElem]
  exact hsplit

theorem xrWord_fields {w : Word} (h : fieldOp w = 0o15) : xrWord (bit w 2) (fieldXRef w) = w := by
  conv_rhs => rw [← mrWord_fields w, h]
  rfl

theorem shWord_fields {w : Word} (hop : fieldOp w = 0) (hhi : fieldHi2 w = 1) :
    shWord (bit w 7) (bit w 8) (fieldK w) (fieldNF w) = w := by
  have hsplit : fieldHi2 w ++ fieldOp w ++ BitVec.ofBool (bit w 7) ++ BitVec.ofBool (bit w 8) ++ fieldK w ++
      fieldNF w = w := by
    ext k hk
    simp only [fieldHi2, fieldOp, fieldK, fieldNF, bit, BitVec.getElem_append]
    interval_cases k <;> simp [BitVec.getLsbD_eq_getElem]
  rwa [hop, hhi] at hsplit

theorem ioWord_fields {w : Word} (hop : fieldOp w = 0o14) : ioWord (fieldHi2 w) (fieldIo w) = w := by
  have hsplit : fieldHi2 w ++ fieldOp w ++ (fieldIo w).f ++ (fieldIo w).d = w := by
    ext k hk
    simp only [fieldHi2, fieldOp, fieldIo, BitVec.getElem_append]
    interval_cases k <;> simp [BitVec.getLsbD_eq_getElem]
  rwa [hop] at hsplit

/-! ### What a decoded word encodes to -/

/-- The instruction is what the word stands for in the mode: the conclusion of the round trip from the word. -/
def StandsFor (dp : Bool) (i : Instr) (w : Word) : Prop := encode i = w ∧ i.wf = true ∧ i.selectedBy dp = true

theorem standsFor_of_lookup {table : List (Word × Instr)} {w : Word} {i : Instr} (h : lookupWord table w = some i)
    (htable : table ⊆ genericWords) (dp : Bool) : StandsFor dp i w := by
  obtain ⟨henc, hwf, hsel⟩ := encode_of_generic _ (htable (lookupWord_mem h))
  exact ⟨henc, hwf, hsel dp⟩

theorem standsFor_of_decodeShift {w : Word} {i : Instr} (h : decodeShift w = some i) (dp : Bool) :
    StandsFor dp i (shWord (bit w 7) (bit w 8) (fieldK w) (fieldNF w)) := by
  unfold decodeShift at h
  split at h
  case h_13 => cases h
  all_goals
    rename_i hleft halone hk
    cases h
    rw [hleft, halone, hk]
    exact ⟨rfl, rfl, rfl⟩

theorem standsFor_of_decodeOutput {w : Word} {i : Instr} (h : decodeOutput w = some i) (dp : Bool) :
    StandsFor dp i (ioWord 3 (fieldIo w)) := by
  have hcode : ∀ {f : BitVec 4} {d : BitVec 6}, (fieldIo w).f = f → (fieldIo w).d = d →
      ioWord 3 (fieldIo w) = ioWord 3 ⟨f, d⟩ := by
    rintro _ _ rfl rfl; rfl
  unfold decodeOutput at h
  split_ifs at h with hd hf hf hd2 hf
  · cases h; rw [hcode hf hd]; exact ⟨rfl, rfl, rfl⟩
  · cases h; rw [hcode hf hd]; exact ⟨rfl, rfl, rfl⟩
  · cases h; rw [hcode hf hd2]; exact ⟨rfl, rfl, rfl⟩
  · cases h; exact ⟨rfl, by simp [Instr.wf, hd, hd2], rfl⟩

theorem fieldHi2_cases (w : Word) : fieldHi2 w = 0 ∨ fieldHi2 w = 1 ∨ fieldHi2 w = 2 ∨ fieldHi2 w = 3 := by
  generalize fieldHi2 w = v
  revert v; decide

theorem standsFor_of_decodeZeroOp {w : Word} {i : Instr} (hop : fieldOp w = 0) (h : decodeZeroOp w = some i)
    (dp : Bool) : StandsFor dp i w := by
  unfold decodeZeroOp at h
  rcases fieldHi2_cases w with hhi | hhi | hhi | hhi <;> rw [hhi] at h
  · exact standsFor_of_lookup (table := lowGenericWords) h (by simp [genericWords]) dp
  · simpa only [shWord_fields hop hhi] using standsFor_of_decodeShift h dp
  · exact standsFor_of_lookup (table := skipWords) h (by simp [genericWords]) dp
  · exact standsFor_of_lookup (table := highGenericWords) h (by simp [genericWords]) dp

theorem standsFor_of_decodeIo {w : Word} {i : Instr} (hop : fieldOp w = 0o14) (h : decodeIo w = some i)
    (dp : Bool) : StandsFor dp i w := by
  rw [← ioWord_fields hop]
  unfold decodeIo at h
  rcases fieldHi2_cases w with hhi | hhi | hhi | hhi <;> rw [hhi] at h ⊢
  · cases h; exact ⟨rfl, rfl, rfl⟩
  · cases h; exact ⟨rfl, rfl, rfl⟩
  · cases h; exact ⟨rfl, rfl, rfl⟩
  · exact standsFor_of_decodeOutput h dp

theorem standsFor_of_decodeMr {dp : Bool} {w : Word} {i : Instr} (h : decodeMr dp w = some i) :
    StandsFor dp i w := by
  have hop : ∀ {n : Nat} (op : BitVec 4), (fieldOp w).toNat = n → n = op.toNat → mrWord op (fieldMemRef w) = w := by
    intro n op hn hval
    rw [← BitVec.eq_of_toNat_eq (hn.trans hval), mrWord_fields]
  unfold decodeMr at h
  split at h
  case h_12 h15 =>
    have hx := xrWord_fields (w := w) (BitVec.eq_of_toNat_eq h15)
    cases ht : bit w 2 <;> rw [ht] at h hx <;> cases h <;> exact ⟨hx, rfl, rfl⟩
  case h_15 => cases h
  case h_2 heq => cases dp <;> cases h <;> exact ⟨hop 0o02 heq rfl, rfl, rfl⟩
  case h_4 heq => cases dp <;> cases h <;> exact ⟨hop 0o04 heq rfl, rfl, rfl⟩
  case h_6 heq => cases dp <;> cases h <;> exact ⟨hop 0o06 heq rfl, rfl, rfl⟩
  case h_7 heq => cases dp <;> cases h <;> exact ⟨hop 0o07 heq rfl, rfl, rfl⟩
  all_goals
    cases h
    exact ⟨hop _ ‹_› rfl, rfl, rfl⟩

theorem standsFor_of_decode {dp : Bool} {w : Word} {i : Instr} (h : decode dp w = .ok i) : StandsFor dp i w := by
  rw [decode_eq_ok] at h
  by_cases hzero : fieldOp w = 0
  · rw [decodeRow_of_zeroOp hzero] at h
    exact standsFor_of_decodeZeroOp hzero h dp
  · by_cases hio : fieldOp w = 0o14
    · rw [decodeRow_of_ioOp hio] at h
      exact standsFor_of_decodeIo hio h dp
    · rw [decodeRow_of_mrOp hzero hio] at h
      exact standsFor_of_decodeMr h

/-! ### The words that are no instruction (R91) -/

theorem decodeShift_eq_none {w : Word} : decodeShift w = none ↔ fieldK w = 3 := by
  unfold decodeShift
  generalize fieldK w = k, fieldNF w = nf, bit w 7 = left, bit w 8 = aAlone
  have hk : k = 0 ∨ k = 1 ∨ k = 2 ∨ k = 3 := by revert k; decide
  rcases hk with rfl | rfl | rfl | rfl <;> cases left <;> cases aAlone <;> simp

theorem decodeZeroOp_eq_none {w : Word} :
    decodeZeroOp w = none ↔
      (fieldHi2 w = 0 ∧ w ∉ lowGenericWords.map Prod.fst) ∨ (fieldHi2 w = 3 ∧ w ∉ highGenericWords.map Prod.fst) ∨
        (fieldHi2 w = 2 ∧ w ∉ skipWords.map Prod.fst) ∨ (fieldHi2 w = 1 ∧ fieldK w = 3) := by
  unfold decodeZeroOp
  rcases fieldHi2_cases w with hhi | hhi | hhi | hhi <;> rw [hhi] <;>
    simp [lookupWord_eq_none, decodeShift_eq_none]

theorem decodeOutput_eq_none {w : Word} :
    decodeOutput w = none ↔
      ((fieldIo w).d = 0o20 ∧ (fieldIo w).f ≠ 0o00 ∧ (fieldIo w).f ≠ 0o10) ∨
        ((fieldIo w).d = 0o24 ∧ (fieldIo w).f ≠ 0o00) := by
  unfold decodeOutput maskDevice mask2Device
  split_ifs <;> simp_all

theorem decodeIo_eq_none {w : Word} : decodeIo w = none ↔ fieldHi2 w = 3 ∧ decodeOutput w = none := by
  unfold decodeIo
  rcases fieldHi2_cases w with hhi | hhi | hhi | hhi <;> rw [hhi] <;> simp

/-- The op codes that are neither '00 nor '14 are all those of R86. -/
theorem decodeMr_ne_none {dp : Bool} {w : Word} (hzero : fieldOp w ≠ 0) (hio : fieldOp w ≠ 0o14) :
    decodeMr dp w ≠ none := by
  unfold decodeMr
  split
  case h_15 =>
    have hlt := (fieldOp w).isLt
    have h0 : (fieldOp w).toNat ≠ 0 := fun h => hzero (BitVec.eq_of_toNat_eq h)
    have h12 : (fieldOp w).toNat ≠ 12 := fun h => hio (BitVec.eq_of_toNat_eq h)
    simp only [imp_false] at *
    exact absurd hlt (by omega)
  all_goals simp

theorem decodeRow_eq_none {dp : Bool} {w : Word} :
    decodeRow dp w = none ↔ (fieldOp w = 0 ∧ decodeZeroOp w = none) ∨ (fieldOp w = 0o14 ∧ decodeIo w = none) := by
  by_cases hzero : fieldOp w = 0
  · simp [decodeRow_of_zeroOp hzero, hzero]
  · by_cases hio : fieldOp w = 0o14
    · simp [decodeRow_of_ioOp hio, hio]
    · simp only [decodeRow_of_mrOp hzero hio, hzero, hio, false_and, or_self, iff_false]
      exact decodeMr_ne_none hzero hio

/-! ### The statements -/

/-- Settles O1: by the format of the instruction's word; the eight words that DP tells apart are those of
`decode_encode_lda` and its neighbours. -/
theorem decodeOfEncode : Obligations.DecodeOfEncode := by
  unfold Obligations.DecodeOfEncode
  intro dp i hwf hsel
  cases i
  case lda m => cases dp; exacts [decode_encode_lda m, nomatch hsel]
  case sta m => cases dp; exacts [decode_encode_sta m, nomatch hsel]
  case add m => cases dp; exacts [decode_encode_add m, nomatch hsel]
  case sub m => cases dp; exacts [decode_encode_sub m, nomatch hsel]
  case dld m => cases dp; exacts [(nomatch hsel), decode_encode_lda_double m]
  case dst m => cases dp; exacts [(nomatch hsel), decode_encode_sta_double m]
  case dad m => cases dp; exacts [(nomatch hsel), decode_encode_add_double m]
  case dsb m => cases dp; exacts [(nomatch hsel), decode_encode_sub_double m]
  case jmp m | ana m | era m | jst m | cas m | irs m | ima m | mpy m | div m =>
    exact decode_mrWord (by decide) (by decide) (by simp [decodeMr])
  case stx x => exact decode_xrWord dp false x
  case ldx x => exact decode_xrWord dp true x
  case ocp code | sks code | ina code => exact decode_ioWord (by simp [decodeIo]) dp
  case ota code => exact decode_ioWord (by rw [decodeIo, fieldHi2_ioWord]; exact decodeOutput_ota hwf) dp
  case smk group => cases group <;> cases dp <;> rfl
  case otk => cases dp <;> rfl
  case lrl nf | lrs nf | lrr nf | lgr nf | ars nf | arr nf | lll nf | lls nf | llr nf | lgl nf | als nf | alr nf =>
    exact decode_shWord (by simp [decodeShift]) dp
  all_goals exact decode_generic (by decide) dp

/-- Settles O2: a word is put together from its fields, and every decoder keeps them all. -/
theorem encodeOfDecode : Obligations.EncodeOfDecode := by
  unfold Obligations.EncodeOfDecode
  exact fun _ _ _ h => standsFor_of_decode h

/-- Settles O4: the only decoders that can reject are the three tables of whole words, that of the shifts at K = 11 and
that of op code '74 at the two devices of R79. -/
theorem unlistedWordsAreExactlyThese : Obligations.UnlistedWordsAreExactlyThese := by
  unfold Obligations.UnlistedWordsAreExactlyThese
  intro dp w
  rw [decode_eq_unlisted, decodeRow_eq_none, decodeZeroOp_eq_none, decodeIo_eq_none, decodeOutput_eq_none]
  simp only [and_or_left, or_assoc]
  exact Iff.rfl

/-- Settles O3: the decoder is run on each of the printed words. -/
theorem wordsOfTheSpecDecode : Obligations.WordsOfTheSpecDecode := by
  unfold Obligations.WordsOfTheSpecDecode
  decide

end Sys2Proof.Machine
end

section
/-! What an instruction may write (10_state.md): the table of the writers of each part of the state, one frame rule per
operation of the model, and from these the frame of every instruction that completes. -/

namespace Sys2Proof.Machine

/-! ### The dispatch of the memory-reference instructions -/

theorem exec_era (m : MemRef) (s : State) : exec (.era m) s = execEra m s := rfl
theorem exec_add (m : MemRef) (s : State) : exec (.add m) s = execAdd m s := rfl
theorem exec_sub (m : MemRef) (s : State) : exec (.sub m) s = execSub m s := rfl
theorem exec_dld (m : MemRef) (s : State) : exec (.dld m) s = execDld m s := rfl
theorem exec_dst (m : MemRef) (s : State) : exec (.dst m) s = execDst m s := rfl
theorem exec_dad (m : MemRef) (s : State) : exec (.dad m) s = execDad m s := rfl
theorem exec_dsb (m : MemRef) (s : State) : exec (.dsb m) s = execDsb m s := rfl
theorem exec_mpy (m : MemRef) (s : State) : exec (.mpy m) s = execMpy m s := rfl
theorem exec_div (m : MemRef) (s : State) : exec (.div m) s = execDiv m s := rfl
theorem exec_jst (m : MemRef) (s : State) : exec (.jst m) s = execJst m s := rfl
theorem exec_cas (m : MemRef) (s : State) : exec (.cas m) s = execCas m s := rfl
theorem exec_irs (m : MemRef) (s : State) : exec (.irs m) s = execIrs m s := rfl
theorem exec_ima (m : MemRef) (s : State) : exec (.ima m) s = execIma m s := rfl
theorem exec_stx (x : XRef) (s : State) : exec (.stx x) s = execStx x s := rfl
theorem exec_ldx (x : XRef) (s : State) : exec (.ldx x) s = execLdx x s := rfl

/-! ### The parts of the state and their writers -/

/-- The parts of the state that the spec gives to some instructions alone. `enable` is PI with ENB_PENDING, `masks` is
MASK with MASK2; `skip` is P moved one further, `p` any change of P. -/
inductive Part where
  | b | c | sc | enable | dp | pmi | rm | masks | run | p | skip | mem

/-- The parts an instruction may write. -/
def writes : Instr → List Part
  | .jmp _ | .cas _ => [.p]
  | .jst _ => [.p, .mem]
  | .irs _ => [.skip, .mem]
  | .sta _ | .dst _ | .ima _ | .stx _ | .ldx _ => [.mem]
  | .dld _ | .iab => [.b]
  | .add _ | .sub _ | .aca | .aoa | .csa | .rcb | .scb => [.c]
  | .dad _ | .dsb _ | .mpy _ | .div _ => [.b, .c]
  | .als _ | .ars _ | .alr _ | .arr _ | .lgl _ | .lgr _ => [.c, .sc]
  | .lls _ | .lrs _ | .llr _ | .lrr _ | .lll _ | .lrl _ | .nrm => [.b, .c, .sc]
  | .otk => [.c, .dp, .pmi, .sc]
  | .smk _ => [.masks]
  | .hlt => [.run]
  | .sgl | .dbl => [.dp]
  | .dxa | .exa => [.pmi]
  | .enb | .inh => [.enable]
  | .erm => [.rm]
  | .sks _ | .ina _ | .ota _ | .skp | .spl | .smi | .sze | .snz | .slz | .sln | .src | .ssc | .sr1 | .sr2 | .sr3 | .sr4
  | .ssr | .ss1 | .ss2 | .ss3 | .ss4 | .sss | .spn | .sps => [.skip]
  | .lda _ | .ana _ | .era _ | .ocp _ | .rmp | .sca | .ink | .chs | .cra | .ssp | .cma | .tca | .ssm | .car | .cal
  | .icl | .icr | .ica | .nop => []

/-- `t` is `s` but for A, MPE, the answers used up, at most one more call in the history, and the parts in `w`. -/
structure Keeps (w : List Part) (s t : State) : Prop where
  b : .b ∉ w → t.b = s.b
  c : .c ∉ w → t.c = s.c
  sc : .sc ∉ w → t.sc = s.sc
  enable : .enable ∉ w → t.pi = s.pi ∧ t.enbPending = s.enbPending
  dp : .dp ∉ w → t.dp = s.dp
  pmi : .pmi ∉ w → t.pmi = s.pmi
  rm : .rm ∉ w → t.rm = s.rm
  masks : .masks ∉ w → t.mask = s.mask ∧ t.mask2 = s.mask2
  run : .run ∉ w → t.run = s.run
  p : .p ∉ w → t.p = s.p ∨ (t.p = wrapAddr s.aw (s.p.toNat + 1) ∧ .skip ∈ w)
  mem : .mem ∉ w → t.mem = s.mem
  mpe : s.config.hasMemoryParity = false → t.mpe = s.mpe
  events : ∃ e : List IoEvent, t.events = s.events ++ e ∧ e.length ≤ 1
  launched : t.config = s.config ∧ t.switches = s.switches ∧ t.switchesFixed = s.switchesFixed

/-! ### One rule per operation -/

namespace Keeps

variable {w : List Part} {s t u : State}

theorem refl (w : List Part) (s : State) : Keeps w s s where
  b _ := rfl
  c _ := rfl
  sc _ := rfl
  enable _ := ⟨rfl, rfl⟩
  dp _ := rfl
  pmi _ := rfl
  rm _ := rfl
  masks _ := ⟨rfl, rfl⟩
  run _ := rfl
  p _ := .inl rfl
  mem _ := rfl
  mpe _ := rfl
  events := ⟨[], by simp, by simp⟩
  launched := ⟨rfl, rfl, rfl⟩

theorem reads (w : List Part) (l : List Word) (s : State) : Keeps w s (afterReads l s) where
  b _ := by simp
  c _ := by simp
  sc _ := by simp
  enable _ := by simp
  dp _ := by simp
  pmi _ := by simp
  rm _ := by simp
  masks _ := by simp
  run _ := by simp
  p _ := by simp
  mem _ := by simp
  mpe h := by rw [afterReads_of_no_parity h]
  events := ⟨[], by simp, by simp⟩
  launched := by simp

theorem setA (h : Keeps w s t) (v : Word) : Keeps w s (t.setA v) := { h with }
theorem setScript (h : Keeps w s t) (v : Script) : Keeps w s (t.setScript v) := { h with }
theorem setDraws (h : Keeps w s t) (v : Nat) : Keeps w s (t.setDraws v) := { h with }

theorem setB (h : Keeps w s t) (hw : .b ∈ w) (v : Word) : Keeps w s (t.setB v) :=
  { h with b := fun hn => absurd hw hn }

theorem setC (h : Keeps w s t) (hw : .c ∈ w) (v : Bool) : Keeps w s (t.setC v) :=
  { h with c := fun hn => absurd hw hn }

theorem setSC (h : Keeps w s t) (hw : .sc ∈ w) (v : BitVec 5) : Keeps w s (t.setSC v) :=
  { h with sc := fun hn => absurd hw hn }

theorem setPI (h : Keeps w s t) (hw : .enable ∈ w) (v : Bool) : Keeps w s (t.setPI v) :=
  { h with enable := fun hn => absurd hw hn }

theorem setEnbPending (h : Keeps w s t) (hw : .enable ∈ w) (v : Bool) : Keeps w s (t.setEnbPending v) :=
  { h with enable := fun hn => absurd hw hn }

theorem setDP (h : Keeps w s t) (hw : .dp ∈ w) (v : Bool) : Keeps w s (t.setDP v) :=
  { h with dp := fun hn => absurd hw hn }

theorem setPMI (h : Keeps w s t) (hw : .pmi ∈ w) (v : Bool) : Keeps w s (t.setPMI v) :=
  { h with pmi := fun hn => absurd hw hn }

theorem setRM (h : Keeps w s t) (hw : .rm ∈ w) (v : Bool) : Keeps w s (t.setRM v) :=
  { h with rm := fun hn => absurd hw hn }

theorem setMPE (h : Keeps w s t) (hparity : s.config.hasMemoryParity = true) (v : Bool) : Keeps w s (t.setMPE v) :=
  { h with mpe := fun hn => absurd (hparity.symm.trans hn) (by decide) }

theorem setMask (h : Keeps w s t) (hw : .masks ∈ w) (v : Word) : Keeps w s (t.setMask v) :=
  { h with masks := fun hn => absurd hw hn }

theorem setMask2 (h : Keeps w s t) (hw : .masks ∈ w) (v : Word) : Keeps w s (t.setMask2 v) :=
  { h with masks := fun hn => absurd hw hn }

theorem setRun (h : Keeps w s t) (hw : .run ∈ w) (v : Bool) : Keeps w s (t.setRun v) :=
  { h with run := fun hn => absurd hw hn }

theorem setP (h : Keeps w s t) (hw : .p ∈ w) (v : Word) : Keeps w s (t.setP v) :=
  { h with p := fun hn => absurd hw hn }

theorem setMem (h : Keeps w s t) (hw : .mem ∈ w) (v : Memory) : Keeps w s (t.setMem v) :=
  { h with mem := fun hn => absurd hw hn }

theorem memWrite (h : Keeps w s u) (hw : .mem ∈ w) {a v : Word} (ht : memWrite a v u = .next t) : Keeps w s t := by
  obtain ⟨-, -, rfl⟩ := memWrite_eq_next.1 ht
  exact h.setMem hw _

theorem record (h : Keeps w s t) (hnone : t.events = s.events) (e : IoEvent) : Keeps w s (record e t) :=
  { h with events := ⟨[e], by rw [record_events, hnone], le_rfl⟩ }

theorem aw (h : Keeps w s t) (hw : .pmi ∉ w) : t.aw = s.aw := by
  rw [State.aw_of_pmiBit_eq]
  rw [State.pmiBit, State.pmiBit, h.pmi hw, h.launched.1]

theorem skipIf (h : Keeps w s t) (hw : .skip ∈ w) (hp : t.p = s.p) (hpmi : .pmi ∉ w) (cond : Bool) :
    Keeps w s (skipIf cond t) := by
  rw [skipIf_eq, h.aw hpmi, hp]
  refine { h with p := fun _ => ?_ }
  cases cond
  · exact .inl rfl
  · exact .inr ⟨rfl, hw⟩

/-- An instruction that ends with a state of which the frame is known. -/
theorem next (h : Keeps w s u) (hu : (.next u : Result State) = .next t) : Keeps w s t := by
  cases hu; exact h

theorem of_withAddress {place : Result Located} {k : Word → State → Result State}
    (h : withAddress place s k = .next t) (hk : ∀ ea l, k ea (afterReads l s) = .next t → Keeps w s t) :
    Keeps w s t := by
  obtain ⟨r, -, h⟩ := withAddress_eq_next.1 h
  exact hk _ _ h

theorem of_withOperand {place : Result Located} {k : Word → Word → State → Result State}
    (h : withOperand place s k = .next t) (hk : ∀ ea v l, k ea v (afterReads l s) = .next t → Keeps w s t) :
    Keeps w s t := by
  obtain ⟨r, -, -, h⟩ := withOperand_eq_next.1 h
  exact hk _ _ _ h

theorem of_withDouble {place : Result Located} {k : Word → Word → State → Result State}
    (h : withDouble place s k = .next t) (hk : ∀ hi lo l, k hi lo (afterReads l s) = .next t → Keeps w s t) :
    Keeps w s t := by
  obtain ⟨r, -, -, -, h⟩ := withDouble_eq_next.1 h
  exact hk _ _ _ h

theorem of_jumpAndStore {place : Result Located} (h : jumpAndStore place s = .next t) (hp : .p ∈ w)
    (hmem : .mem ∈ w) : Keeps w s t := by
  obtain ⟨r, -, -, -, rfl⟩ := jumpAndStore_eq_next.1 h
  exact ((reads w _ s).setMem hmem _).setP hp _

theorem skipOnSwitches (hw : .skip ∈ w) (hpmi : .pmi ∉ w) (cond : SenseSwitches → Bool) (s : State) :
    Keeps w s (skipOnSwitches cond s) := by
  obtain ⟨n, hn⟩ := askSwitches_frame s
  rw [Machine.skipOnSwitches, hn]
  exact ((refl w s).setDraws n).skipIf hw rfl hpmi _

end Keeps

/-! ### Shifts, multiply, divide and normalise -/

/-- A one-place step that leaves B alone leaves it alone any number of times. -/
theorem repeatStep_b {f : ShiftRegs → ShiftRegs} (hf : ∀ r, (f r).b = r.b) (n : Nat) (r : ShiftRegs) :
    (repeatStep f n r).b = r.b := by
  induction n generalizing r with
  | zero => rfl
  | succ n ih => rw [repeatStep, ih, hf]

section
variable {w : List Part} {s t : State}

theorem execShift_keeps {f : ShiftRegs → ShiftRegs} {nf : BitVec 6} (h : execShift f nf s = .next t)
    (hc : .c ∈ w) (hsc : .sc ∈ w) (hb : .b ∈ w ∨ ∀ r, (f r).b = r.b) : Keeps w s t := by
  obtain ⟨n, -, rfl⟩ := execShift_eq_next.1 h
  refine Keeps.setSC (Keeps.setC ?_ hc _) hsc _
  have hA := ((Keeps.refl w s).setDraws (s.draws + 1)).setA (repeatStep f n ⟨s.a, s.b, false⟩).a
  rcases hb with hb | hb
  · exact hA.setB hb _
  · rw [repeatStep_b hb]
    exact hA

theorem drawDouble_keeps (hb : .b ∈ w) (h : Keeps w s t) : Keeps w s (drawDouble t) :=
  (((h.setDraws _).setDraws _).setA _).setB hb _

theorem multiplied_keeps (hb : .b ∈ w) (hc : .c ∈ w ∨ t.a ≠ 0x8000) (h : Keeps w s t) (v : Word) :
    Keeps w s (multiplied v t) := by
  unfold multiplied
  split_ifs with hmin
  · have hc : .c ∈ w := hc.resolve_right fun hne => hne hmin.1
    unfold leastProduct
    split
    · exact ((drawDouble_keeps hb h).setDraws _).setC hc _
    · exact ((h.setA _).setB hb _).setC hc _
  · exact (h.setA _).setB hb _

theorem putQuotient_keeps (hb : .b ∈ w) (hc : .c ∈ w) (h : Keeps w s t) (q r : Int) :
    Keeps w s (putQuotient q r t) := ((h.setA _).setB hb _).setC hc _

theorem improperDivide_keeps (hb : .b ∈ w) (hc : .c ∈ w) (h : Keeps w s t) : Keeps w s (improperDivide t) :=
  (drawDouble_keeps hb h).setC hc _

theorem divided_keeps {u : State} {v : Word} (hb : .b ∈ w) (hc : .c ∈ w) (h : Keeps w s u)
    (hd : divided v u = .next t) : Keeps w s t := by
  unfold divided at hd
  split at hd
  · exact (putQuotient_keeps hb hc h _ _).next hd
  · exact (improperDivide_keeps hb hc h).next hd
  · split at hd
    · cases hd
    · exact (putQuotient_keeps hb hc h _ _).next hd
    · exact (improperDivide_keeps hb hc h).next hd
    · split at hd
      · exact (improperDivide_keeps hb hc h).next hd
      · exact (putQuotient_keeps hb hc h _ _).next hd

theorem normalised_keeps (hb : .b ∈ w) (hc : .c ∈ w) (hsc : .sc ∈ w) (limit : Nat) (s : State) :
    Keeps w s (normalised limit s) := by
  obtain ⟨n, h⟩ := normalised_frame limit s
  rw [h]
  exact (((((Keeps.refl w s).setDraws n).setA _).setB hb _).setSC hsc _).setC hc _

theorem execNrm_keeps (hb : .b ∈ w) (hc : .c ∈ w) (hsc : .sc ∈ w) (h : execNrm s = .next t) : Keeps w s t := by
  obtain ⟨-, h⟩ := needs_eq_next.1 h
  split at h
  · exact (normalised_keeps hb hc hsc _ s).next h
  · split at h
    · cases h
    · exact (normalised_keeps hb hc hsc _ s).next h
  · split at h
    · exact (normalised_keeps hb hc hsc _ s).next h
    · exact (normalised_keeps hb hc hsc _ s).next h

end

/-! ### Input and output -/

section
variable {w : List Part} {s t : State} {code : IoCode}

theorem execSks_keeps (hw : .skip ∈ w) (hpmi : .pmi ∉ w) (h : execSks code s = .next t) : Keeps w s t := by
  obtain ⟨k, n, hq⟩ := askSense_frame code.f code.d s
  have hask : Keeps w s (askSense code.f code.d s).2 := by
    rw [hq]; exact ((Keeps.refl w s).setScript k).setDraws n
  exact ((hask.record (by rw [hq]; rfl) _).skipIf hw (by rw [hq]; rfl) hpmi _).next h

theorem execOta_keeps (hw : .skip ∈ w) (hpmi : .pmi ∉ w) (h : execOta code s = .next t) : Keeps w s t := by
  obtain ⟨k, n, hq⟩ := askOutput_frame code.f code.d s.a s
  have hask : Keeps w s (askOutput code.f code.d s.a s).2 := by
    rw [hq]; exact ((Keeps.refl w s).setScript k).setDraws n
  exact ((hask.record (by rw [hq]; rfl) _).skipIf hw (by rw [hq]; rfl) hpmi _).next h

theorem execIna_keeps (hw : .skip ∈ w) (hpmi : .pmi ∉ w) (h : execIna code s = .next t) : Keeps w s t := by
  obtain ⟨k, n, hq⟩ := askInput_frame code.f code.d s
  have hask : Keeps w s (askInput code.f code.d s).2 := by
    rw [hq]; exact ((Keeps.refl w s).setScript k).setDraws n
  have hrec := hask.record (by rw [hq]; rfl)
    (.ina code.f code.d (askInput code.f code.d s).1.1 (askInput code.f code.d s).1.2)
  refine Keeps.next ?_ h
  split_ifs
  · exact (hrec.setA _).skipIf hw (by rw [State.setA_p, record, State.setEvents_p, hq]; rfl) hpmi true
  · exact hrec

end

/-! ### Every instruction -/

/-- An instruction that completes keeps every part of the state that it is not listed to write. -/
theorem exec_keeps {i : Instr} {s t : State} (h : exec i s = .next t) : Keeps (writes i) s t := by
  cases i
  case jmp m =>
    rw [exec_jmp, execJmp, jumpTo] at h
    exact Keeps.of_withAddress h fun _ l => ((Keeps.reads _ l s).setP (by simp [writes]) _).next
  case lda m | ana m | era m =>
    simp only [exec_lda, execLda, exec_ana, execAna, exec_era, execEra] at h
    exact Keeps.of_withOperand h fun _ _ l => ((Keeps.reads _ l s).setA _).next
  case add m | sub m =>
    simp only [exec_add, execAdd, exec_sub, execSub] at h
    exact Keeps.of_withOperand h fun _ _ l => (((Keeps.reads _ l s).setA _).setC (by simp [writes]) _).next
  case cas m =>
    rw [exec_cas, execCas] at h
    refine Keeps.of_withOperand h fun _ _ l => Keeps.next ?_
    split_ifs
    · exact Keeps.reads _ l s
    · exact (Keeps.reads _ l s).setP (by simp [writes]) _
    · exact (Keeps.reads _ l s).setP (by simp [writes]) _
  case jst m => exact Keeps.of_jumpAndStore h (by simp [writes]) (by simp [writes])
  case sta m =>
    rw [exec_sta, execSta] at h
    exact Keeps.of_withAddress h fun _ l => (Keeps.reads _ l s).memWrite (by simp [writes])
  case ima m =>
    rw [exec_ima, execIma] at h
    refine Keeps.of_withOperand h fun _ _ l hk => ?_
    obtain ⟨u, hu, hk⟩ := andThen_eq_next.1 hk
    exact (((Keeps.reads _ l s).memWrite (by simp [writes]) hu).setA _).next hk
  case irs m =>
    rw [exec_irs, execIrs] at h
    refine Keeps.of_withOperand h fun _ _ l hk => ?_
    obtain ⟨u, hu, hk⟩ := andThen_eq_next.1 hk
    have hp : u.p = s.p := by
      obtain ⟨-, -, rfl⟩ := memWrite_eq_next.1 hu
      simp
    have hstored : Keeps (writes (.irs m)) s u := (Keeps.reads _ l s).memWrite (by simp [writes]) hu
    exact (hstored.skipIf (by simp [writes]) hp (by simp [writes]) _).next hk
  case stx x =>
    exact Keeps.of_withAddress (needs_eq_next.1 h).2 fun _ l => (Keeps.reads _ l s).memWrite (by simp [writes])
  case ldx x =>
    exact Keeps.of_withOperand (needs_eq_next.1 h).2 fun _ _ l => (Keeps.reads _ l s).memWrite (by simp [writes])
  case dld m =>
    exact Keeps.of_withDouble (needs_eq_next.1 h).2 fun _ _ l =>
      (((Keeps.reads _ l s).setA _).setB (by simp [writes]) _).next
  case dst m =>
    refine Keeps.of_withAddress (needs_eq_next.1 h).2 fun _ l hk => ?_
    obtain ⟨u, hu, hk⟩ := andThen_eq_next.1 hk
    exact ((Keeps.reads _ l s).memWrite (by simp [writes]) hu).memWrite (by simp [writes]) hk
  case dad m | dsb m =>
    exact Keeps.of_withDouble (needs_eq_next.1 h).2 fun _ _ l =>
      ((((Keeps.reads _ l s).setA _).setB (by simp [writes]) _).setC (by simp [writes]) _).next
  case mpy m =>
    exact Keeps.of_withOperand (needs_eq_next.1 h).2 fun _ v l =>
      (multiplied_keeps (by simp [writes]) (.inl (by simp [writes])) (Keeps.reads _ l s) v).next
  case div m =>
    exact Keeps.of_withOperand (needs_eq_next.1 h).2 fun _ v l =>
      divided_keeps (by simp [writes]) (by simp [writes]) (Keeps.reads _ l s)
  case ocp code => exact ((Keeps.refl _ s).record rfl _).next h
  case sks code => exact execSks_keeps (by simp [writes]) (by simp [writes]) h
  case ina code => exact execIna_keeps (by simp [writes]) (by simp [writes]) h
  case ota code => exact execOta_keeps (by simp [writes]) (by simp [writes]) h
  case smk group =>
    cases group
    · exact (((Keeps.refl _ s).setMask (by simp [writes]) s.a).record rfl _).next h
    · exact (((Keeps.refl _ s).setMask2 (by simp [writes]) s.a).record rfl _).next h
  case otk =>
    obtain ⟨-, h⟩ := needs_eq_next.1 (needs_eq_next.1 h).2
    split_ifs at h
    exact (((((Keeps.refl _ s).setC (by simp [writes]) _).setDP (by simp [writes]) _).setPMI (by simp [writes]) _).setSC
      (by simp [writes]) _).next h
  case als nf | ars nf | alr nf | arr nf | lgl nf | lgr nf =>
    exact execShift_keeps h (by simp [writes]) (by simp [writes]) (.inr fun _ => rfl)
  case lls nf | lrs nf | llr nf | lrr nf | lll nf | lrl nf =>
    exact execShift_keeps h (by simp [writes]) (by simp [writes]) (.inl (by simp [writes]))
  case nrm => exact execNrm_keeps (by simp [writes]) (by simp [writes]) (by simp [writes]) h
  case hlt => exact ((Keeps.refl _ s).setRun (by simp [writes]) _).next h
  case sgl | dbl => exact ((Keeps.refl _ s).setDP (by simp [writes]) _).next (needs_eq_next.1 h).2
  case exa => exact ((Keeps.refl _ s).setPMI (by simp [writes]) _).next (needs_eq_next.1 h).2
  case dxa =>
    obtain ⟨-, h⟩ := needs_eq_next.1 h
    split_ifs at h
    exact ((Keeps.refl _ s).setPMI (by simp [writes]) _).next h
  case rmp =>
    obtain ⟨hparity, h⟩ := needs_eq_next.1 h
    exact ((Keeps.refl _ s).setMPE hparity _).next h
  case sca => exact ((Keeps.refl _ s).setA _).next (needs_eq_next.1 h).2
  case iab => exact (((Keeps.refl _ s).setA _).setB (by simp [writes]) _).next h
  case enb | inh => exact (((Keeps.refl _ s).setPI (by simp [writes]) _).setEnbPending (by simp [writes]) _).next h
  case erm => exact ((Keeps.refl _ s).setRM (by simp [writes]) _).next (needs_eq_next.1 h).2
  case ink | chs | cra | ssp | cma | tca | ssm | car | cal | icl | icr | ica =>
    exact ((Keeps.refl _ s).setA _).next h
  case rcb | scb => exact ((Keeps.refl _ s).setC (by simp [writes]) _).next h
  case csa => exact (((Keeps.refl _ s).setC (by simp [writes]) _).setA _).next h
  case aca | aoa => exact (((Keeps.refl _ s).setA _).setC (by simp [writes]) _).next h
  case nop => exact (Keeps.refl _ s).next h
  case skp | spl | smi | sze | snz | slz | sln | src | ssc =>
    exact ((Keeps.refl _ s).skipIf (by simp [writes]) rfl (by simp [writes]) _).next h
  case spn | sps =>
    exact ((Keeps.refl _ s).skipIf (by simp [writes]) rfl (by simp [writes]) _).next (needs_eq_next.1 h).2
  case sr1 | sr2 | sr3 | sr4 | ssr | ss1 | ss2 | ss3 | ss4 | sss =>
    exact (Keeps.skipOnSwitches (by simp [writes]) (by simp [writes]) _ s).next h

/-- MPY leaves C alone unless A is '100000: its only product that does not fit has both factors so (R137). -/
theorem exec_mpy_c {m : MemRef} {s t : State} (h : exec (.mpy m) s = .next t) (ha : s.a ≠ 0x8000) : t.c = s.c := by
  have hk : Keeps [.b] s t := Keeps.of_withOperand (needs_eq_next.1 h).2 fun _ v l =>
    (multiplied_keeps (by simp) (.inr (by simpa using ha)) (Keeps.reads _ l s) v).next
  exact hk.c (by simp)

/-! ### Stores -/

/-- The memory after a store of some word at a located and installed address. -/
def StoresAt (place : Result Located) (s t : State) : Prop :=
  ∃ r v, place = .next r ∧ r.ea.toNat < s.config.memWords ∧ t.mem = s.mem.writeWord r.ea.toNat v

section
variable {m : MemRef} {x : XRef} {s t : State}

theorem exec_sta_storesAt (h : exec (.sta m) s = .next t) : StoresAt (locateMem m s) s t := by
  rw [exec_sta, execSta] at h
  obtain ⟨r, hr, h⟩ := withAddress_eq_next.1 h
  obtain ⟨-, hmem, rfl⟩ := memWrite_eq_next.1 h
  exact ⟨r, s.a, hr, by simpa using hmem, by simp⟩

theorem exec_ima_storesAt (h : exec (.ima m) s = .next t) : StoresAt (locateMem m s) s t := by
  rw [exec_ima, execIma] at h
  obtain ⟨r, hr, hmem, h⟩ := withOperand_eq_next.1 h
  obtain ⟨u, hu, h⟩ := andThen_eq_next.1 h
  obtain ⟨-, -, rfl⟩ := memWrite_eq_next.1 hu
  cases h
  exact ⟨r, s.a, hr, hmem, by simp⟩

theorem exec_irs_storesAt (h : exec (.irs m) s = .next t) : StoresAt (locateMem m s) s t := by
  rw [exec_irs, execIrs] at h
  obtain ⟨r, hr, hmem, h⟩ := withOperand_eq_next.1 h
  obtain ⟨u, hu, h⟩ := andThen_eq_next.1 h
  obtain ⟨-, -, rfl⟩ := memWrite_eq_next.1 hu
  cases h
  exact ⟨r, s.mem.readWord r.ea.toNat + 1, hr, hmem, by simp [skipIf_eq]⟩

theorem jumpAndStore_storesAt {place : Result Located} (h : jumpAndStore place s = .next t) :
    StoresAt place s t := by
  obtain ⟨r, hr, hmem, -, rfl⟩ := jumpAndStore_eq_next.1 h
  exact ⟨r, _, hr, hmem, rfl⟩

theorem exec_stx_storesAt (h : exec (.stx x) s = .next t) : StoresAt (locateX x s) s t := by
  obtain ⟨r, hr, h⟩ := withAddress_eq_next.1 (needs_eq_next.1 h).2
  obtain ⟨-, hmem, rfl⟩ := memWrite_eq_next.1 h
  exact ⟨r, s.x, hr, by simpa using hmem, by simp⟩

theorem exec_ldx_mem (h : exec (.ldx x) s = .next t) :
    0 < s.config.memWords ∧ ∃ v, t.mem = s.mem.writeWord 0 v := by
  obtain ⟨r, -, -, h⟩ := withOperand_eq_next.1 (needs_eq_next.1 h).2
  obtain ⟨-, hmem, rfl⟩ := memWrite_eq_next.1 h
  exact ⟨by simpa using hmem, _, by simp; rfl⟩

theorem exec_dst_mem (h : exec (.dst m) s = .next t) :
    ∃ r, locateMem m s = .next r ∧ r.ea.toNat < s.config.memWords ∧
      (secondAddress r.ea s).toNat < s.config.memWords ∧
      t.mem = (s.mem.writeWord r.ea.toNat s.a).writeWord (secondAddress r.ea s).toNat s.b := by
  obtain ⟨r, hr, h⟩ := withAddress_eq_next.1 (needs_eq_next.1 h).2
  obtain ⟨u, hu, h⟩ := andThen_eq_next.1 h
  obtain ⟨-, hfirst, rfl⟩ := memWrite_eq_next.1 hu
  obtain ⟨-, hsecond, rfl⟩ := memWrite_eq_next.1 h
  exact ⟨r, hr, by simpa using hfirst, by simpa using hsecond, by simp⟩

theorem StoresAt.sameBytesOutside {place : Result Located} {r : Located} (h : StoresAt place s t)
    (hr : place = .next r) : SameBytesOutside r.ea.toNat s.mem t.mem := by
  obtain ⟨q, v, hq, -, ht⟩ := h
  obtain rfl : q = r := by rw [hr] at hq; cases hq; rfl
  rw [ht]
  exact sameBytesOutside_writeWord _ _ _

end

/-- Memory that stores of words at installed addresses lead to. -/
inductive Stored (words : Nat) (m : Memory) : Memory → Prop where
  | none : Stored words m m
  | store {n : Memory} {a : Nat} (v : Word) (h : Stored words m n) (ha : a < words) : Stored words m (n.writeWord a v)

theorem StoresAt.stored {place : Result Located} {s t : State} (h : StoresAt place s t) :
    Stored s.config.memWords s.mem t.mem := by
  obtain ⟨r, v, -, hmem, ht⟩ := h
  rw [ht]
  exact .store v .none hmem

/-- Whatever an instruction does to memory are stores at installed addresses. -/
theorem exec_stored {i : Instr} {s t : State} (h : exec i s = .next t) : Stored s.config.memWords s.mem t.mem := by
  cases i
  case sta m => exact (exec_sta_storesAt h).stored
  case ima m => exact (exec_ima_storesAt h).stored
  case irs m => exact (exec_irs_storesAt h).stored
  case jst m => exact (jumpAndStore_storesAt h).stored
  case stx x => exact (exec_stx_storesAt h).stored
  case ldx x =>
    obtain ⟨hzero, v, ht⟩ := exec_ldx_mem h
    rw [ht]; exact .store v .none hzero
  case dst m =>
    obtain ⟨r, -, hfirst, hsecond, ht⟩ := exec_dst_mem h
    rw [ht]; exact .store _ (.store _ .none hfirst) hsecond
  all_goals
    rw [(exec_keeps h).mem (by simp [writes])]
    exact .none

/-! ### The statements -/

/-- Settles O57: by the table of the writers. -/
theorem indicatorsHaveTheirWritersOnly : Obligations.IndicatorsHaveTheirWritersOnly := by
  unfold Obligations.IndicatorsHaveTheirWritersOnly
  intro i s t h
  have hk := exec_keeps h
  refine ⟨fun h1 h2 => hk.enable ?_, fun h1 h2 h3 => hk.dp ?_, fun h1 h2 h3 => hk.pmi ?_, fun h1 => hk.rm ?_,
    fun h1 => hk.masks ?_, fun h1 => hk.run ?_⟩
  all_goals cases i <;> simp_all [writes]

/-- Settles O58: by the table of the writers, and for each of the seven by where it stores. -/
theorem onlyStoresChangeMemory : Obligations.OnlyStoresChangeMemory := by
  unfold Obligations.OnlyStoresChangeMemory
  intro i s t h
  refine ⟨fun hm hx => (exec_keeps h).mem ?_, fun m r hr => ⟨?_, ?_⟩, fun x r hr => ⟨?_, ?_⟩⟩
  · cases i <;> simp_all [writes]
  · rintro (rfl | rfl | rfl | rfl)
    · exact (exec_sta_storesAt h).sameBytesOutside hr
    · exact (exec_ima_storesAt h).sameBytesOutside hr
    · exact (exec_irs_storesAt h).sameBytesOutside hr
    · exact (jumpAndStore_storesAt h).sameBytesOutside hr
  · rintro rfl k hfirst hfirst' hsecond hsecond'
    obtain ⟨q, hq, -, -, ht⟩ := exec_dst_mem h
    obtain rfl : q = r := by rw [hr] at hq; cases hq; rfl
    rw [ht, sameBytesOutside_writeWord _ _ _ k hsecond hsecond', sameBytesOutside_writeWord _ _ _ k hfirst hfirst']
  · rintro rfl
    exact (exec_stx_storesAt h).sameBytesOutside hr
  · rintro rfl
    obtain ⟨-, v, ht⟩ := exec_ldx_mem h
    rw [ht]
    exact sameBytesOutside_writeWord _ _ _

/-- Settles O59: by the table of the writers; of MPY's two effects on C the table lists one. -/
theorem registersHaveTheirWritersOnly : Obligations.RegistersHaveTheirWritersOnly := by
  unfold Obligations.RegistersHaveTheirWritersOnly
  intro i s t h
  have hk := exec_keeps h
  refine ⟨fun hm hshift h1 h2 => hk.b ?_, fun hshift hnrm => ⟨fun hotk => hk.sc ?_, ?_⟩, hk.events⟩
  · cases i <;> simp_all [writes]
  · cases i <;> simp_all [writes]
  · intro hm h1 h2 h3 h4 h5 h6
    cases i
    case mpy m => exact exec_mpy_c h ((hm m).2.2.2.2.2 rfl)
    all_goals exact hk.c (by simp_all [writes])

/-- Settles O60: by the table of the writers. -/
theorem onlyTransfersAndSkipsChangeP : Obligations.OnlyTransfersAndSkipsChangeP := by
  unfold Obligations.OnlyTransfersAndSkipsChangeP
  intro i s t h hm
  refine ((exec_keeps h).p ?_).imp_right fun ⟨hp, hskip⟩ => ⟨hp, ?_⟩
  · cases i <;> simp_all [writes]
  · cases i <;> simp_all [writes]

end Sys2Proof.Machine
end

section
/-! Memory and addresses: canonical memories (20_memory.md section 1), what reads may change (R33, R55), and the
effective address (R80 to R83) with the bound on its loop. -/

namespace Sys2Proof.Machine

/-! ### Canonical memories that read alike -/

/-- In a canonical memory the listed cells are exactly the bytes that differ from an unlisted one. -/
theorem Memory.mem_iff_readByte {m : Memory} (h : m.wf) {n : Nat} {v : Byte} :
    (n, v) ∈ m ↔ m.readByte n = v ∧ v ≠ unlistedByte := by
  induction m with
  | nil => simp [Memory.readByte, eq_comm]
  | cons c m ih =>
    obtain ⟨k, w⟩ := c
    obtain ⟨hsorted, hlisted⟩ := h
    obtain ⟨hfirst, hsorted⟩ := List.pairwise_cons.1 hsorted
    have hw : w ≠ unlistedByte := hlisted _ List.mem_cons_self
    have ih := ih ⟨hsorted, fun c hc => hlisted c (List.mem_cons_of_mem _ hc)⟩
    rw [List.mem_cons, Memory.readByte]
    split_ifs with hn
    · subst hn
      have hnot : (n, v) ∉ m := fun hm => lt_irrefl n (hfirst _ hm)
      simp only [hnot, or_false, Prod.mk.injEq, true_and]
      exact ⟨fun hv => ⟨hv.symm, hv ▸ hw⟩, fun hv => hv.1.symm⟩
    · simpa [hn] using ih

theorem Memory.left_of_readWord (m : Memory) (a : Nat) : (m.readWord a).extractLsb' 8 8 = m.readByte (2 * a) :=
  BitVec.extractLsb'_append_eq_left

theorem Memory.right_of_readWord (m : Memory) (a : Nat) :
    (m.readWord a).extractLsb' 0 8 = m.readByte (2 * a + 1) :=
  BitVec.extractLsb'_append_eq_right

/-- The two bytes of a word are read back from it (R50). -/
theorem Memory.readByte_eq_of_readWord_eq {m n : Memory} (h : ∀ a, m.readWord a = n.readWord a) (k : Nat) :
    m.readByte k = n.readByte k := by
  rcases Nat.mod_two_eq_zero_or_one k with hk | hk
  · obtain ⟨a, rfl⟩ : ∃ a, k = 2 * a := ⟨k / 2, by omega⟩
    rw [← m.left_of_readWord, h, n.left_of_readWord]
  · obtain ⟨a, rfl⟩ : ∃ a, k = 2 * a + 1 := ⟨k / 2, by omega⟩
    rw [← m.right_of_readWord, h, n.right_of_readWord]

/-- Settles O19: the cells are determined by the bytes read, and their order by their addresses. -/
theorem canonicalMemoriesThatReadAlikeAreEqual : Obligations.CanonicalMemoriesThatReadAlikeAreEqual := by
  unfold Obligations.CanonicalMemoriesThatReadAlikeAreEqual
  intro m n hm hn h
  have : Std.Irrefl fun c d : Host.Cell => c.1 < d.1 := ⟨fun c => lt_irrefl c.1⟩
  have : Std.Antisymm fun c d : Host.Cell => c.1 < d.1 := ⟨fun c d hcd hdc => absurd hcd (lt_asymm hdc)⟩
  refine hm.1.eq_of_mem_iff hn.1 fun c => ?_
  rw [Memory.mem_iff_readByte hm, Memory.mem_iff_readByte hn, Memory.readByte_eq_of_readWord_eq h]

/-! ### Reads of memory -/

/-- With the parity option a read asks the environment once, and bad parity raises MPE (R33, R55). -/
theorem afterRead_of_parity {s : State} (h : s.config.hasMemoryParity = true) (a : Word) :
    afterRead a s = (askParity a s).2.setMPE (s.mpe || (askParity a s).1) := by
  rw [afterRead, if_pos h]

theorem afterRead_mpe_of_mpe {s : State} (h : s.mpe = true) (a : Word) : (afterRead a s).mpe = true := by
  unfold afterRead
  split <;> simp [h]

/-- No read clears MPE. -/
theorem afterReads_mpe_of_mpe (l : List Word) {s : State} (h : s.mpe = true) : (afterReads l s).mpe = true := by
  induction l generalizing s with
  | nil => exact h
  | cons a l ih => exact ih (afterRead_mpe_of_mpe h a)

theorem onlyReadMemory_afterReads (l : List Word) (s : State) : OnlyReadMemory s (afterReads l s) :=
  ⟨afterReads_frame l s, afterReads_mpe_of_mpe l, fun h => afterReads_of_no_parity h l⟩

theorem askParity_of_script {s : State} {bad : Bool} {rest : List Bool} (h : s.script.parity = bad :: rest) (a : Word) :
    askParity a s = (bad, s.setScript { s.script with parity := rest }) := by
  rw [askParity, h]; rfl

/-- Settles O15: the frame of any number of reads, and the one question that each asks with the option. -/
theorem memoryReadsTouchOnlyParity : Obligations.MemoryReadsTouchOnlyParity := by
  unfold Obligations.MemoryReadsTouchOnlyParity
  refine ⟨onlyReadMemory_afterReads, fun a l s u bad hparity hask => ?_, fun a s bad rest h => askParity_of_script h a⟩
  have hframe := askParity_frame a s
  have hread := afterRead_of_parity hparity a
  rw [hask] at hframe hread
  rw [afterReads_cons, hread]
  refine ⟨hframe, rfl, fun hbad => afterReads_mpe_of_mpe l ?_⟩
  rw [hbad]; simp

/-! ### The first address (R80) -/

theorem toNat_ofNat_of_lt {n : Nat} (h : n < 2 ^ 15) : (BitVec.ofNat 16 n).toNat = n := by
  rw [BitVec.toNat_ofNat, Nat.mod_eq_of_lt (lt_trans h (by decide))]

theorem State.two_pow_aw (s : State) : 2 ^ s.aw = 16384 ∨ 2 ^ s.aw = 32768 :=
  s.aw_eq.imp (fun h => by rw [h]; rfl) (fun h => by rw [h]; rfl)

/-- The executing instruction was fetched one below P (R10, R26). -/
theorem State.instrAddr_succ (s : State) : (s.instrAddr.toNat + 1) % 2 ^ s.aw = s.p.toNat % 2 ^ s.aw := by
  rw [State.instrAddr, wrapAddr_toNat (by have := s.aw_le; omega)]
  rcases s.two_pow_aw with h | h <;> rw [h] <;> omega

theorem State.instrAddr_lt (s : State) : s.instrAddr.toNat < 2 ^ s.aw :=
  wrapAddr_lt (by have := s.aw_le; omega) _

/-- The start of the sector that holds the instruction. -/
def sectorStart (pf : Nat) : Nat := pf - pf % 512

/-- A sector is whole, so the address formed in it needs no reduction modulo `2^AW`. -/
theorem sectorStart_add_lt {s : State} {pf : Nat} (h : pf < 2 ^ s.aw) (d : BitVec 9) :
    sectorStart pf + d.toNat < 2 ^ s.aw := by
  have hd := d.isLt
  unfold sectorStart
  rcases s.two_pow_aw with hw | hw <;> rw [hw] at h ⊢ <;> omega

theorem firstAddress_eq (sector : Bool) (d : BitVec 9) (s : State) :
    ∃ y : Nat, firstAddress sector d s = BitVec.ofNat 16 y ∧ (sector = false → y = d.toNat) ∧
      (sector = true →
        ∃ pf < 2 ^ s.aw, (pf + 1) % 2 ^ s.aw = s.p.toNat % 2 ^ s.aw ∧ y = pf - pf % 512 + d.toNat) := by
  cases sector
  · exact ⟨d.toNat, (BitVec.ofNat_toNat 16 d).symm, fun _ => rfl, nofun⟩
  · refine ⟨sectorStart s.instrAddr.toNat + d.toNat, ?_, nofun,
      fun _ => ⟨_, s.instrAddr_lt, s.instrAddr_succ, rfl⟩⟩
    rw [← Nat.mod_eq_of_lt (sectorStart_add_lt s.instrAddr_lt d)]
    rfl

/-! ### Direct references (R81, R82) -/

theorem aw_of_pmiBit_false {s : State} (h : s.pmiBit = false) : s.aw = 14 := by simp [State.aw, h]
theorem aw_of_pmiBit_true {s : State} (h : s.pmiBit = true) : s.aw = 15 := by simp [State.aw, h]

theorem resolve_normal {s : State} (h : s.pmiBit = false) (i t : Bool) (y : Word) :
    resolve i t y s = normalChain (chainLimit 14) i t y s := by
  rw [resolve, if_neg (by simp [h])]

theorem resolve_extended {s : State} (h : s.pmiBit = true) (i t : Bool) (y : Word) :
    resolve i t y s =
      andThen (extendedChain (chainLimit 15) i y s) fun r => .next { r with ea := indexedBy 15 t r.ea s } := by
  rw [resolve, if_pos h]

theorem resolve_direct (t : Bool) (y : Word) (s : State) :
    resolve false t y s = .next { ea := indexedBy s.aw t y s, path := [] } := by
  cases h : s.pmiBit
  · rw [resolve_normal h, normalChain_direct, aw_of_pmiBit_false h]
  · rw [resolve_extended h, extendedChain_direct, aw_of_pmiBit_true h]
    rfl

theorem indexedBy_eq_ofNat {aw : Nat} {y : Word} (hy : y.toNat < 2 ^ aw) (t : Bool) (s : State) :
    indexedBy aw t y s =
      BitVec.ofNat 16 ((y.toNat + (if t then (s.mem.readWord 0).toNat else 0)) % 2 ^ aw) := by
  cases t
  · have : BitVec.ofNat 16 (y.toNat % 2 ^ aw) = y := by rw [Nat.mod_eq_of_lt hy, BitVec.ofNat_toNat, BitVec.setWidth_eq]
    simpa using this.symm
  · rfl

theorem locateX_eq_locateMem (x : XRef) (s : State) :
    locateX x s = locateMem ⟨x.indirect, false, x.sector, x.disp⟩ s := rfl

/-- Settles O16: the first address, indexed where the index bit asks for it. -/
theorem directAddress : Obligations.DirectAddress := by
  unfold Obligations.DirectAddress
  refine ⟨fun m s hi => ?_, fun x s hi => by rw [locateX_eq_locateMem, hi]⟩
  obtain ⟨y, hy, hzero, hsector⟩ := firstAddress_eq m.sector m.disp s
  refine ⟨(firstAddress m.sector m.disp s).toNat, ?_, fun h => ?_, fun h => ?_⟩
  · rw [locateMem, hi, resolve_direct,
      indexedBy_eq_ofNat (firstAddress_lt _ _ s)]
  · rw [hy, hzero h]
    exact toNat_ofNat_of_lt (lt_trans m.disp.isLt (by decide))
  · obtain ⟨pf, hlt, hpf, rfl⟩ := hsector h
    refine ⟨pf, hlt, hpf, ?_⟩
    rw [hy]
    exact toNat_ofNat_of_lt (lt_of_lt_of_le (sectorStart_add_lt hlt m.disp)
      (Nat.pow_le_pow_right (by decide) s.aw_le))

/-! ### The bound on the loop: a chain that uses it up visits an address twice -/

/-- From an address to the next one of a chain, where there is one. -/
def follow (next : Word → Option Word) (o : Option Word) : Option Word := o.bind next

theorem follow_none (next : Word → Option Word) (k : Nat) : (follow next)^[k] none = none :=
  Function.iterate_fixed rfl k

theorem follow_none_of_le {next : Word → Option Word} {o : Option Word} {k n : Nat} (hkn : k ≤ n)
    (h : (follow next)^[k] o = none) : (follow next)^[n] o = none := by
  obtain ⟨d, rfl⟩ := Nat.exists_eq_add_of_le' hkn
  rw [Function.iterate_add_apply, h, follow_none]

/-- A chain that comes back to an address has no end. -/
theorem follow_ne_none_of_repeat {next : Word → Option Word} {o : Option Word} {i j : Nat} (hij : i < j)
    (heq : (follow next)^[i] o = (follow next)^[j] o) (hi : (follow next)^[i] o ≠ none) (k : Nat) :
    (follow next)^[k] o ≠ none := by
  intro hk
  have hperiod : (follow next)^[j - i] ((follow next)^[i] o) = (follow next)^[i] o := by
    rw [← Function.iterate_add_apply, Nat.sub_add_cancel hij.le, heq]
  have hrounds : (follow next)^[(j - i) * k + i] o = (follow next)^[i] o := by
    rw [Function.iterate_add_apply, Function.iterate_mul, Function.iterate_fixed hperiod]
  have hle : k ≤ (j - i) * k + i := le_add_right (Nat.le_mul_of_pos_left k (by omega))
  exact hi (hrounds ▸ follow_none_of_le hle hk)

/-- Among the `N` addresses below `N` a chain of more than `N` repeats one. -/
theorem follow_ne_none_of_long {next : Word → Option Word} {N : Nat}
    (hnext : ∀ a b, next a = some b → b.toNat < N) {a : Word} (ha : a.toNat < N)
    (hlong : (follow next)^[N] (some a) ≠ none) (k : Nat) : (follow next)^[k] (some a) ≠ none := by
  have hall : ∀ n ≤ N, ∃ b : Word, (follow next)^[n] (some a) = some b ∧ b.toNat < N := by
    intro n hn
    obtain ⟨b, hb⟩ := Option.ne_none_iff_exists'.1 fun h => hlong (follow_none_of_le hn h)
    refine ⟨b, hb, ?_⟩
    cases n with
    | zero => obtain rfl : a = b := Option.some.inj hb; exact ha
    | succ n =>
      rw [Function.iterate_succ_apply'] at hb
      obtain ⟨c, -, hc⟩ := Option.bind_eq_some_iff.1 hb
      exact hnext c b hc
  choose! b hb hlt using hall
  obtain ⟨i, hi, j, hj, hij, hbij⟩ := Finset.exists_ne_map_eq_of_card_lt_of_maps_to
    (s := Finset.range (N + 1)) (t := Finset.range N) (f := fun n => (b n).toNat) (by simp)
    (fun n hn => by simpa using hlt n (by simpa [Nat.lt_succ_iff] using hn))
  have hi : i ≤ N := by simpa [Nat.lt_succ_iff] using hi
  have hj : j ≤ N := by simpa [Nat.lt_succ_iff] using hj
  have heq : (follow next)^[i] (some a) = (follow next)^[j] (some a) := by
    rw [hb i hi, hb j hj, BitVec.eq_of_toNat_eq hbij]
  have hne : ∀ n ≤ N, (follow next)^[n] (some a) ≠ none := fun n hn => by simp [hb n hn]
  rcases lt_or_gt_of_ne hij with h | h
  · exact follow_ne_none_of_repeat h heq (hne i hi) k
  · exact follow_ne_none_of_repeat h heq.symm (hne j hj) k

theorem andThen_next_eq_fault {α β : Type} {r : Result α} {g : α → β} {f : Fault} :
    (andThen r fun v => .next (g v)) = .fault f ↔ r = .fault f := by
  cases r <;> simp

/-- The address of the indirect word read after the one at `a`, if that word is there and indirect (R81). -/
def nextNormal (s : State) (a : Word) : Option Word :=
  if a.toNat < s.config.memWords ∧ bit (s.mem.readWord a.toNat) 1 = true then
    some (indexedBy 14 (bit (s.mem.readWord a.toNat) 2) (s.mem.readWord a.toNat &&& 0x3FFF) s)
  else none

/-- The same in extended mode (R82). -/
def nextExtended (s : State) (a : Word) : Option Word :=
  if a.toNat < s.config.memWords ∧ bit (s.mem.readWord a.toNat) 1 = true then
    some (s.mem.readWord a.toNat &&& 0x7FFF)
  else none

theorem nextNormal_lt {s : State} {a b : Word} (h : nextNormal s a = some b) : b.toNat < 2 ^ 14 := by
  unfold nextNormal at h
  split_ifs at h
  cases h
  exact indexedBy_lt (by decide) _ (and_3FFF_lt _) s

theorem nextExtended_lt {s : State} {a b : Word} (h : nextExtended s a = some b) : b.toNat < 2 ^ 15 := by
  unfold nextExtended at h
  split_ifs at h
  cases h
  exact and_7FFF_lt _

/-- The loop of R81 uses its bound up exactly where so many further addresses follow. -/
theorem normalChain_endless_iff {fuel : Nat} {t : Bool} {y : Word} {s : State} :
    normalChain fuel true t y s = .fault .endlessIndirection ↔
      (follow (nextNormal s))^[fuel] (some (indexedBy 14 t y s)) ≠ none := by
  induction fuel generalizing t y with
  | zero => simp [normalChain]
  | succ fuel ih =>
    rw [normalChain_indirect, Function.iterate_succ_apply, follow, Option.bind_some, nextNormal]
    by_cases ha : (indexedBy 14 t y s).toNat < s.config.memWords
    · rw [wordAt_of_lt ha, andThen_next, andThen_next_eq_fault]
      cases hbit : bit (s.mem.readWord (indexedBy 14 t y s).toNat) 1
      · simp [follow_none]
      · rw [ih, if_pos ⟨ha, rfl⟩]
    · simp [wordAt_of_not_lt ha, ha, follow_none]

/-- The loop of R82 uses its bound up exactly where so many further addresses follow. -/
theorem extendedChain_endless_iff {fuel : Nat} {y : Word} {s : State} :
    extendedChain fuel true y s = .fault .endlessIndirection ↔
      (follow (nextExtended s))^[fuel] (some y) ≠ none := by
  induction fuel generalizing y with
  | zero => simp [extendedChain]
  | succ fuel ih =>
    rw [extendedChain_indirect, Function.iterate_succ_apply, follow, Option.bind_some, nextExtended]
    by_cases ha : y.toNat < s.config.memWords
    · rw [wordAt_of_lt ha, andThen_next, andThen_next_eq_fault]
      cases hbit : bit (s.mem.readWord y.toNat) 1
      · simp [follow_none]
      · rw [ih, if_pos ⟨ha, rfl⟩]
    · simp [wordAt_of_not_lt ha, ha, follow_none]

/-- A chain that ends within a bound is the same under every larger one. -/
theorem normalChain_add {fuel : Nat} {i t : Bool} {y : Word} {s : State} (k : Nat)
    (h : normalChain fuel i t y s ≠ .fault .endlessIndirection) :
    normalChain (fuel + k) i t y s = normalChain fuel i t y s := by
  induction fuel generalizing i t y with
  | zero =>
    cases i
    · rw [normalChain_direct, normalChain_direct]
    · exact absurd rfl h
  | succ fuel ih =>
    cases i
    · rw [normalChain_direct, normalChain_direct]
    · rw [Nat.succ_add, normalChain_indirect, normalChain_indirect]
      rw [normalChain_indirect] at h
      by_cases ha : (indexedBy 14 t y s).toNat < s.config.memWords
      · rw [wordAt_of_lt ha, andThen_next] at h ⊢
        rw [ih fun hend => h (by rw [hend]; rfl), andThen_next]
      · rw [wordAt_of_not_lt ha]; rfl

theorem extendedChain_add {fuel : Nat} {i : Bool} {y : Word} {s : State} (k : Nat)
    (h : extendedChain fuel i y s ≠ .fault .endlessIndirection) :
    extendedChain (fuel + k) i y s = extendedChain fuel i y s := by
  induction fuel generalizing i y with
  | zero =>
    cases i
    · rw [extendedChain_direct, extendedChain_direct]
    · exact absurd rfl h
  | succ fuel ih =>
    cases i
    · rw [extendedChain_direct, extendedChain_direct]
    · rw [Nat.succ_add, extendedChain_indirect, extendedChain_indirect]
      rw [extendedChain_indirect] at h
      by_cases ha : y.toNat < s.config.memWords
      · rw [wordAt_of_lt ha, andThen_next] at h ⊢
        rw [ih fun hend => h (by rw [hend]; rfl), andThen_next]
      · rw [wordAt_of_not_lt ha]; rfl

theorem normalChain_limit_add (k : Nat) (i t : Bool) {y : Word} (s : State) (hy : y.toNat < 2 ^ 14) :
    normalChain (chainLimit 14 + k) i t y s = normalChain (chainLimit 14) i t y s := by
  cases i
  · rw [normalChain_direct, normalChain_direct]
  · by_cases hend : normalChain (chainLimit 14) true t y s = .fault .endlessIndirection
    · rw [hend, normalChain_endless_iff]
      exact follow_ne_none_of_long (fun _ _ => nextNormal_lt) (indexedBy_lt (by decide) t hy s)
        (normalChain_endless_iff.1 hend) _
    · exact normalChain_add k hend

theorem extendedChain_limit_add (k : Nat) (i : Bool) {y : Word} (s : State) (hy : y.toNat < 2 ^ 15) :
    extendedChain (chainLimit 15 + k) i y s = extendedChain (chainLimit 15) i y s := by
  cases i
  · rw [extendedChain_direct, extendedChain_direct]
  · by_cases hend : extendedChain (chainLimit 15) true y s = .fault .endlessIndirection
    · rw [hend, extendedChain_endless_iff]
      exact follow_ne_none_of_long (fun _ _ => nextExtended_lt) hy (extendedChain_endless_iff.1 hend) _
    · exact extendedChain_add k hend

/-- Settles O18: a chain as long as the bound has more addresses than there are, so it repeats one and never ends; any
other ends the same under every larger bound. -/
theorem chainBoundCutsOnlyEndlessChains : Obligations.ChainBoundCutsOnlyEndlessChains := by
  unfold Obligations.ChainBoundCutsOnlyEndlessChains
  exact ⟨fun k i t _ s => normalChain_limit_add k i t s, fun k i _ s => extendedChain_limit_add k i s⟩

/-! ### One indirect word (R81, R82) -/

theorem andThen_assoc {α β γ : Type} (r : Result α) (f : α → Result β) (g : β → Result γ) :
    andThen (andThen r f) g = andThen r fun v => andThen (f v) g := by
  cases r <;> rfl

section
variable {t : Bool} {y i m : Word} {f : Fault} {s : State}

theorem chainLimit_eq_succ (aw : Nat) : chainLimit aw = chainLimit aw - 1 + 1 :=
  (Nat.sub_add_cancel (Nat.one_le_two_pow : 1 ≤ 2 ^ aw)).symm

theorem resolve_normal_direct (hpmi : s.pmiBit = false) (hi : i = indexedBy 14 t y s) (hm : wordAt i s = .next m)
    (hbit : bit m 1 = false) :
    resolve true t y s = .next { ea := indexedBy 14 (bit m 2) (m &&& 0x3FFF) s, path := [i] } := by
  subst hi
  rw [resolve_normal hpmi, chainLimit_eq_succ, normalChain_indirect, hm, andThen_next, hbit, normalChain_direct,
    andThen_next]

/-- A further level of the chain: the bound is one larger than what is left of it, and by the lemma above that makes
no difference. -/
theorem resolve_normal_indirect (hpmi : s.pmiBit = false) (hi : i = indexedBy 14 t y s) (hm : wordAt i s = .next m)
    (hbit : bit m 1 = true) (hy : y.toNat < 2 ^ 14) :
    resolve true t y s =
      andThen (resolve true (bit m 2) (m &&& 0x3FFF) s) fun r => .next { r with path := i :: r.path } := by
  subst hi
  rw [resolve_normal hpmi, resolve_normal hpmi, ← normalChain_limit_add 1 true t s hy, normalChain_indirect, hm,
    andThen_next, hbit]

theorem resolve_extended_direct (hpmi : s.pmiBit = true) (hm : wordAt y s = .next m) (hbit : bit m 1 = false) :
    resolve true t y s = .next { ea := indexedBy 15 t (m &&& 0x7FFF) s, path := [y] } := by
  rw [resolve_extended hpmi, chainLimit_eq_succ, extendedChain_indirect, hm, andThen_next, hbit, extendedChain_direct,
    andThen_next, andThen_next]

theorem resolve_extended_indirect (hpmi : s.pmiBit = true) (hm : wordAt y s = .next m) (hbit : bit m 1 = true)
    (hy : y.toNat < 2 ^ 15) :
    resolve true t y s =
      andThen (resolve true t (m &&& 0x7FFF) s) fun r => .next { r with path := y :: r.path } := by
  rw [resolve_extended hpmi, resolve_extended hpmi, ← extendedChain_limit_add 1 true s hy, extendedChain_indirect, hm,
    andThen_next, hbit, andThen_assoc, andThen_assoc]
  rfl

theorem resolve_fault (hi : i = if !s.pmiBit && t then wrapAddr 14 (y.toNat + s.x.toNat) else y)
    (hf : wordAt i s = .fault f) : resolve true t y s = .fault f := by
  cases hpmi : s.pmiBit
  · have hi : i = indexedBy 14 t y s := by simpa [hpmi, indexedBy] using hi
    rw [resolve_normal hpmi, chainLimit_eq_succ, normalChain_indirect, ← hi, hf, andThen_fault]
  · obtain rfl : i = y := by simpa [hpmi, indexedBy] using hi
    rw [resolve_extended hpmi, chainLimit_eq_succ, extendedChain_indirect, hf, andThen_fault, andThen_fault]

end

/-- Settles O17: one level of the loop in each mode; the levels after it are the loop's again, because its bound makes
no difference. -/
theorem oneIndirectWord : Obligations.OneIndirectWord := by
  unfold Obligations.OneIndirectWord
  refine ⟨fun m s hi => ?_, fun x s hi => by rw [locateX_eq_locateMem, hi], fun t y i m s hpmi hi hm => ?_,
    fun t y m s hpmi hm => ?_, fun t y i f s hi hf => resolve_fault hi hf⟩
  · obtain ⟨y, hy, hzero, hsector⟩ := firstAddress_eq m.sector m.disp s
    exact ⟨y, by rw [locateMem, hi, hy], hzero, hsector⟩
  · exact ⟨resolve_normal_direct hpmi hi hm, resolve_normal_indirect hpmi hi hm⟩
  · exact ⟨resolve_extended_direct hpmi hm, resolve_extended_indirect hpmi hm⟩

end Sys2Proof.Machine
end

section
/-! Steps (R10, R273, R274): which of its three ends a step takes, the invariant, and interrupts. -/

namespace Sys2Proof.Machine

/-! ### The dispatch -/

theorem exec_enb (s : State) : exec .enb s = execEnb s := rfl
theorem exec_inh (s : State) : exec .inh s = execInh s := rfl
theorem exec_exa (s : State) : exec .exa s = execExa s := rfl
theorem exec_dxa (s : State) : exec .dxa s = execDxa s := rfl
theorem exec_otk (s : State) : exec .otk s = execOtk s := rfl
theorem exec_erm (s : State) : exec .erm s = execErm s := rfl

/-! ### The ends of a step -/

section
variable {s u : State}

theorem step_of_halted (h : s.run = false) : step s = .fault .halted := if_pos h

theorem step_of_restricted (hrun : s.run = true) (hrm : s.rmBit = true) :
    step s = .refused .restrictedModeUnmodelled := by
  rw [step, if_neg (by simp [hrun]), if_pos hrm]

theorem step_of_executing (h : Executing s) (hu : (interruptDue s).2 = u) : step s = fetchAndExecute u := by
  obtain ⟨hrun, hrm, hdue⟩ := h
  rw [step, if_neg (by simp [hrun]), if_neg (by simp [hrm]), if_neg (by simp [hdue]), hu]

theorem step_of_due (hrun : s.run = true) (hrm : s.rmBit = false) (hdue : (interruptDue s).1 = true) :
    step s = takeInterrupt (interruptDue s).2 := by
  rw [step, if_neg (by simp [hrun]), if_neg (by simp [hrm]), if_pos hdue]

theorem step_of_disabled (hrun : s.run = true) (hrm : s.rmBit = false) (h : s.pi = false ∨ s.enbPending = true) :
    step s = fetchAndExecute s :=
  step_of_executing ⟨hrun, hrm, by rw [interruptDue_of_disabled h]⟩ (by rw [interruptDue_of_disabled h])

theorem interruptDue_of_enabled (hrun : s.run = true) (hpi : s.pi = true) (henb : s.enbPending = false) :
    interruptDue s = askInterrupt s := by
  rw [interruptDue, if_pos (by simp [hrun, hpi, henb])]

theorem afterFetch_eq (s : State) :
    afterFetch s = ((afterReads [s.p] s).setP (wrapAddr s.aw (s.p.toNat + 1))).setEnbPending false := rfl

theorem fetchAndExecute_of_decoded {i : Instr} (hp : s.p.toNat < s.config.memWords)
    (h : decode s.dpBit (s.mem.readWord s.p.toNat) = .ok i) : fetchAndExecute s = exec i (afterFetch s) := by
  have hdp : (afterFetch s).dpBit = s.dpBit := by simp [afterFetch]
  rw [fetchAndExecute, fetch_eq_next.2 ⟨hp, rfl⟩, andThen_next, hdp, h]

theorem fetchAndExecute_of_unlisted {w : Word} (hp : s.p.toNat < s.config.memWords)
    (h : decode s.dpBit (s.mem.readWord s.p.toNat) = .error (.unlistedEncoding w)) :
    fetchAndExecute s = .refused (.unlistedEncoding w) := by
  have hdp : (afterFetch s).dpBit = s.dpBit := by simp [afterFetch]
  rw [fetchAndExecute, fetch_eq_next.2 ⟨hp, rfl⟩, andThen_next, hdp, h]

theorem fetchAndExecute_of_no_memory (hp : ¬s.p.toNat < s.config.memWords) :
    fetchAndExecute s = .fault (.noMemory s.p) := by
  rw [fetchAndExecute, fetch, wordAt_of_not_lt hp, andThen_fault]

end

/-- Settles O9: an executing step is the fetch and the decoded instruction. -/
theorem stepRunsTheDecodedInstruction : Obligations.StepRunsTheDecodedInstruction := by
  unfold Obligations.StepRunsTheDecodedInstruction
  intro s u i hs hu hp hi
  refine ⟨?_, hu ▸ interruptDue_frame s, afterFetch_eq u, onlyReadMemory_afterReads _ u⟩
  rw [step_of_executing hs hu, fetchAndExecute_of_decoded hp hi]

/-- Settles O10: the halt comes before everything else, and a fetch has two ways to fail. -/
theorem stepStopsWhereNoInstructionIs : Obligations.StepStopsWhereNoInstructionIs := by
  unfold Obligations.StepStopsWhereNoInstructionIs
  refine ⟨fun s => step_of_halted, fun s u hs hu hp => ?_, fun s u w hs hu hp hw hdec => ?_⟩
  · rw [step_of_executing hs hu, fetchAndExecute_of_no_memory hp]
  · rw [step_of_executing hs hu, fetchAndExecute_of_unlisted (w := w) hp (by rw [hw]; exact hdec)]

/-- Settles O12: where none can be due nothing is asked; with the option a due one is refused. -/
theorem whenNoInterruptIsTaken : Obligations.WhenNoInterruptIsTaken := by
  unfold Obligations.WhenNoInterruptIsTaken
  refine ⟨fun s => step_of_disabled, fun s hrun hrm hext hdue => ?_⟩
  obtain ⟨k, n, hframe⟩ := interruptDue_frame s
  rw [step_of_due hrun hrm hdue, takeInterrupt, if_pos (by rw [hframe]; exact hext)]

theorem exec_erm_of_hasMemoryLockout {s : State} (h : s.config.hasMemoryLockout = true) :
    exec .erm s = .next (s.setRM true) := by
  rw [exec_erm, execErm, h, needs_true]

/-- Settles O54: ERM sets RM, and the test for restricted mode comes before the fetch. -/
theorem restrictedModeStopsEveryStep : Obligations.RestrictedModeStopsEveryStep := by
  unfold Obligations.RestrictedModeStopsEveryStep
  refine fun s => ⟨fun h => ⟨exec_erm_of_hasMemoryLockout h, fun hrun hrm => ?_⟩, fun h => ?_⟩
  · exact step_of_restricted hrun (by rw [State.rmBit, h, hrm]; rfl)
  · rw [exec_erm, execErm, h, needs_false]

/-! ### What every step keeps -/

theorem interruptDue_keeps (w : List Part) (s : State) : Keeps w s (interruptDue s).2 := by
  obtain ⟨k, n, h⟩ := interruptDue_frame s
  rw [h]
  exact ((Keeps.refl w s).setScript k).setDraws n

theorem afterFetch_launched (s : State) :
    (afterFetch s).config = s.config ∧ (afterFetch s).switches = s.switches ∧
      (afterFetch s).switchesFixed = s.switchesFixed := by
  simp [afterFetch]

theorem interruptEntry_eq_next {s t : State} :
    interruptEntry s = .next t ↔
      ∃ r, resolve true false s.config.intVector s = .next r ∧ r.ea.toNat < s.config.memWords ∧ s.rmBit = false ∧
        t = ((afterReads (r.path ++ [r.ea]) (s.setPI false)).setMem
              (s.mem.writeWord r.ea.toNat (linkWord s.pmiBit (s.mem.readWord r.ea.toNat) s.p))).setP
            (wrapAddr s.aw (r.ea.toNat + 1)) := jumpAndStore_eq_next

/-- Settles O8: no operation of a step writes these fields. -/
theorem stepKeepsParametersAndSwitches : Obligations.StepKeepsParametersAndSwitches := by
  unfold Obligations.StepKeepsParametersAndSwitches
  intro s t h
  obtain ⟨hconfig, hswitches, hfixed⟩ := (interruptDue_keeps [] s).launched
  rw [← hconfig, ← hswitches, ← hfixed]
  obtain ⟨-, -, ⟨-, h⟩ | ⟨-, h⟩⟩ := step_next_cases h
  · obtain ⟨r, -, -, -, rfl⟩ := interruptEntry_eq_next.1 (takeInterrupt_eq_next.1 h).2
    simp
  · obtain ⟨-, i, -, h⟩ := fetchAndExecute_eq_next.1 h
    obtain ⟨hc, hs, hf⟩ := (exec_keeps h).launched
    obtain ⟨hc', hs', hf'⟩ := afterFetch_launched (interruptDue s).2
    exact ⟨hc.trans hc', hs.trans hs', hf.trans hf'⟩

/-- Settles O13: the fetch clears ENB_PENDING, and ENB alone sets it. -/
theorem instructionStepEndsEnbPending : Obligations.InstructionStepEndsEnbPending := by
  unfold Obligations.InstructionStepEndsEnbPending
  intro s t i hs hi h
  obtain ⟨k, n, hframe⟩ := interruptDue_frame s
  rw [step_of_executing hs rfl, hframe] at h
  obtain ⟨-, j, hj, h⟩ := fetchAndExecute_eq_next.1 h
  obtain rfl : j = i := Except.ok.inj (hj.symm.trans hi)
  refine ⟨fun henb => ?_, fun henb => ?_⟩
  · by_cases hinh : j = .inh
    · subst hinh; cases h; rfl
    · exact ((exec_keeps h).enable (by cases j <;> simp_all [writes])).2
  · subst henb; cases h; rfl

/-! ### The invariant -/

theorem Stored.inv {words : Nat} {m n : Memory} (h : Stored words m n) (hwf : m.wf) (hwithin : m.within words) :
    n.wf ∧ n.within words := by
  induction h with
  | none => exact ⟨hwf, hwithin⟩
  | store v _ ha ih => exact ⟨Memory.wf_writeWord _ _ ih.1, Memory.within_writeWord _ ih.2 ha⟩

theorem State.wrapAddr_lt (s : State) (n : Nat) : (wrapAddr s.aw n).toNat < 2 ^ s.aw :=
  Machine.wrapAddr_lt (by have := s.aw_le; omega) n

theorem State.aw_setPMI_true_of_ext {s : State} (h : s.config.hasExtendedAddressing = true) :
    (s.setPMI true).aw = 15 := aw_of_pmiBit_true (by simp [h])

section
variable {s t : State}

/-- A transfer leaves P an address of the mode (R26, R52). -/
theorem exec_transfer_p_lt {i : Instr} (hs : s.p.toNat < 2 ^ s.aw) (h : exec i s = .next t)
    (hi : (∃ m, i = .jmp m) ∨ (∃ m, i = .jst m) ∨ ∃ m, i = .cas m) : t.p.toNat < 2 ^ s.aw := by
  rcases hi with ⟨m, rfl⟩ | ⟨m, rfl⟩ | ⟨m, rfl⟩
  · obtain ⟨r, hr, rfl⟩ := jumpTo_eq_next.1 h
    exact locateMem_lt hr
  · obtain ⟨r, -, -, -, rfl⟩ := jumpAndStore_eq_next.1 h
    exact s.wrapAddr_lt _
  · rw [exec_cas, execCas] at h
    obtain ⟨r, -, -, h⟩ := withOperand_eq_next.1 h
    cases h
    split_ifs
    · simpa using hs
    · simpa [skip] using s.wrapAddr_lt _
    · simpa [skip] using s.wrapAddr_lt _

/-- What the three writers of PMI have in common: P stays, the new PMI has its option, and it is not cleared while P is
an upper address (R228, R231, R232). -/
theorem exec_pmi_writer (hs : s.p.toNat < 2 ^ s.aw) {i : Instr} (hi : i = .exa ∨ i = .dxa ∨ i = .otk)
    (h : exec i s = .next t) :
    t.p.toNat < 2 ^ t.aw ∧ (s.config.hasExtendedAddressing = false → t.pmi = false) := by
  rcases hi with rfl | rfl | rfl
  · obtain ⟨hext, h⟩ := needs_eq_next.1 h
    cases h
    rw [State.aw_setPMI_true_of_ext hext]
    exact ⟨lt_of_lt_of_le hs (Nat.pow_le_pow_right (by decide) s.aw_le), by simp [hext]⟩
  · obtain ⟨hext, h⟩ := needs_eq_next.1 h
    split_ifs at h with hp
    cases h
    rw [aw_of_pmiBit_false (by simp)]
    exact ⟨not_le.1 hp, fun _ => rfl⟩
  · obtain ⟨hext, h⟩ := needs_eq_next.1 (needs_eq_next.1 h).2
    split_ifs at h with hp
    cases h
    refine ⟨?_, fun hno => by simpa [hno] using hext⟩
    have hnew : (((((s.setC (bit s.a 1)).setDP (bit s.a 2)).setPMI (bit s.a 3)).setSC (s.a.extractLsb' 0 5))).pmiBit =
        (s.config.hasExtendedAddressing && bit s.a 3) := rfl
    cases hbit : s.config.hasExtendedAddressing && bit s.a 3
    · rw [aw_of_pmiBit_false (hnew.trans hbit)]
      cases hpmi : s.pmiBit
      · rwa [aw_of_pmiBit_false hpmi] at hs
      · have hext' : s.config.hasExtendedAddressing = true := by
          rw [State.pmiBit, Bool.and_eq_true] at hpmi
          exact hpmi.1
        have hclear : bit s.a 3 = false := by rwa [hext', Bool.true_and] at hbit
        exact not_le.1 fun hge : upperMemory ≤ s.p.toNat => hp (by rw [hpmi, hclear, decide_eq_true hge]; rfl)
    · rw [aw_of_pmiBit_true (hnew.trans hbit)]
      exact lt_of_lt_of_le hs (Nat.pow_le_pow_right (by decide) s.aw_le)

/-- DP is not set without its option (R228 to R230). -/
theorem exec_dp_writer {i : Instr} (hi : i = .sgl ∨ i = .dbl ∨ i = .otk) (h : exec i s = .next t)
    (hno : s.config.hasHsa = false) : t.dp = false := by
  rcases hi with rfl | rfl | rfl
  · cases hno.symm.trans (needs_eq_next.1 h).1
  · cases hno.symm.trans (needs_eq_next.1 h).1
  · obtain ⟨hhsa, h⟩ := needs_eq_next.1 h
    obtain ⟨-, h⟩ := needs_eq_next.1 h
    split_ifs at h
    cases h
    simpa [hno] using hhsa

/-- What is left to show of the invariant where the frame is known. -/
theorem Keeps.inv {w : List Part} (hk : Keeps w s t) (hs : s.Inv) (hmem : Stored s.config.memWords s.mem t.mem)
    (hp : t.p.toNat < 2 ^ t.aw) (hdp : .dp ∈ w → s.config.hasHsa = false → t.dp = false)
    (hpmi : .pmi ∈ w → s.config.hasExtendedAddressing = false → t.pmi = false)
    (hrm : .rm ∈ w → s.config.hasMemoryLockout = false → t.rm = false) : t.Inv := by
  obtain ⟨hconfig, -, -⟩ := hk.launched
  obtain ⟨hwf, hwithin⟩ := hmem.inv hs.memCanonical hs.memInstalled
  constructor
  all_goals try rw [hconfig]
  · exact hwf
  · exact hwithin
  · exact hp
  · exact fun h => by_cases (fun hw => hdp hw h) fun hw => (hk.dp hw).trans (hs.dpWired h)
  · exact fun h => by_cases (fun hw => hpmi hw h) fun hw => (hk.pmi hw).trans (hs.pmiWired h)
  · exact fun h => by_cases (fun hw => hrm hw h) fun hw => (hk.rm hw).trans (hs.rmWired h)
  · exact fun h => (hk.mpe h).trans (hs.mpeWired h)

/-- P stays an address of the mode in force (R26). -/
theorem exec_p_lt {i : Instr} (hs : s.p.toNat < 2 ^ s.aw) (h : exec i s = .next t) : t.p.toNat < 2 ^ t.aw := by
  have hk := exec_keeps h
  by_cases hpmi : Part.pmi ∈ writes i
  · exact (exec_pmi_writer hs (by cases i <;> simp_all [writes]) h).1
  · rw [hk.aw hpmi]
    by_cases hp : Part.p ∈ writes i
    · exact exec_transfer_p_lt hs h (by cases i <;> simp_all [writes])
    · rcases hk.p hp with hsame | ⟨hskip, -⟩
      · rwa [hsame]
      · rw [hskip]
        exact s.wrapAddr_lt _

theorem exec_inv {i : Instr} (hs : s.Inv) (h : exec i s = .next t) : t.Inv := by
  refine (exec_keeps h).inv hs (exec_stored h) (exec_p_lt hs.pInRange h) (fun hw => ?_) (fun hw => ?_) fun hw hno => ?_
  · exact exec_dp_writer (by cases i <;> simp_all [writes]) h
  · exact (exec_pmi_writer hs.pInRange (by cases i <;> simp_all [writes]) h).2
  · obtain rfl : i = .erm := by cases i <;> simp_all [writes]
    cases hno.symm.trans (needs_eq_next.1 h).1

theorem interruptDue_inv (hs : s.Inv) : (interruptDue s).2.Inv := by
  obtain ⟨k, n, h⟩ := interruptDue_frame s
  rw [h]
  exact { hs with }

theorem afterFetch_inv (hs : s.Inv) : (afterFetch s).Inv := by
  have hk : Keeps [.p, .enable] s (afterFetch s) := by
    rw [afterFetch_eq]
    exact ((Keeps.reads _ _ s).setP (by simp) _).setEnbPending (by simp) _
  refine hk.inv hs ?_ ?_ (by simp) (by simp) (by simp)
  · rw [hk.mem (by simp)]; exact .none
  · rw [hk.aw (by simp)]; exact s.wrapAddr_lt _

theorem takeInterrupt_inv (hs : s.Inv) (h : takeInterrupt s = .next t) : t.Inv := by
  have hentry := (takeInterrupt_eq_next.1 h).2
  have hpi : (s.setPI false).Inv := { hs with }
  have hk : Keeps [.p, .mem] (s.setPI false) t := Keeps.of_jumpAndStore hentry (by simp) (by simp)
  refine hk.inv hpi (jumpAndStore_storesAt hentry).stored ?_ (by simp) (by simp) (by simp)
  obtain ⟨r, -, -, -, rfl⟩ := interruptEntry_eq_next.1 hentry
  rw [hk.aw (by simp)]
  exact s.wrapAddr_lt _

end

/-- Settles O7: both ends of a step keep the invariant, and so do the question before them and the fetch. -/
theorem stepKeepsTheInvariant : Obligations.StepKeepsTheInvariant := by
  unfold Obligations.StepKeepsTheInvariant
  intro s t hs h
  obtain ⟨-, -, ⟨-, h⟩ | ⟨-, h⟩⟩ := step_next_cases h
  · exact takeInterrupt_inv (interruptDue_inv hs) h
  · obtain ⟨-, i, -, h⟩ := fetchAndExecute_eq_next.1 h
    exact exec_inv (afterFetch_inv (interruptDue_inv hs)) h

/-! ### Reset and launch (R41, R290, R291) -/

/-- Settles O5: the fields of the reset state. -/
theorem resetState : Obligations.ResetState := by
  unfold Obligations.ResetState
  exact ⟨rfl, rfl, rfl, rfl, rfl, rfl, rfl, rfl, rfl⟩

theorem reset_inv : State.reset.Inv where
  memCanonical := ⟨List.Pairwise.nil, nofun⟩
  memInstalled := nofun
  pInRange := by decide
  dpWired _ := rfl
  pmiWired _ := rfl
  rmWired _ := rfl
  mpeWired _ := rfl

/-- Every address of an image without duplicates reads as the image gives it. -/
theorem readWord_loadImage_of_mem {words : Nat} {image : List (Word × Word)} {a v : Word} (m : Memory)
    (hinstalled : ∀ cell ∈ image, cell.1.toNat < words) (hnodup : (image.map Prod.fst).Nodup)
    (h : (a, v) ∈ image) : (loadImage words image m).readWord a.toNat = v := by
  induction image generalizing m with
  | nil => cases h
  | cons cell image ih =>
    obtain ⟨b, x⟩ := cell
    rw [List.map_cons, List.nodup_cons] at hnodup
    rw [loadImage_cons, if_pos (hinstalled _ List.mem_cons_self)]
    rcases List.mem_cons.1 h with h | h
    · cases h
      rw [readWord_loadImage_of_not_mem _ _ hnodup.1, Memory.readWord_writeWord_same]
    · exact ih _ (fun c hc => hinstalled c (List.mem_cons_of_mem _ hc)) hnodup.2 h

theorem ne_true_of_wired {present : Bool} {o : Option Bool} (h : (present || o != some true) = true)
    (hno : present = false) : o.getD false = false := by
  subst hno
  cases o with
  | none => rfl
  | some v => cases v <;> simp_all

/-- What a well-formed launch asks (R291), as propositions. -/
theorem Launch.wf_iff {l : Launch} :
    l.wf = true ↔
      l.parameters.wf = true ∧ (∀ cell ∈ l.image, cell.1.toNat < l.parameters.memWords) ∧
        (l.image.map Prod.fst).Nodup ∧ (l.parameters.hasHsa || l.dp != some true) = true ∧
        (l.parameters.hasExtendedAddressing || l.pmi != some true) = true ∧
        (l.parameters.hasMemoryLockout || l.rm != some true) = true ∧
        (l.parameters.hasMemoryParity || l.mpe != some true) = true ∧
        (l.pmi == some true || decide (l.parameters.startAddress.toNat < 2 ^ 14)) = true := by
  simp only [Launch.wf, Bool.and_eq_true, List.all_eq_true, decide_eq_true_eq, and_assoc]

theorem Parameters.startAddress_lt {q : Parameters} (h : q.wf = true) : q.startAddress.toNat < 2 ^ 15 := by
  simp only [Parameters.wf, Bool.and_eq_true, decide_eq_true_eq] at h
  exact h.1.2

/-- The start address is one of the mode that the launch starts in (R26). -/
theorem Launch.state_p_lt {l : Launch} (h : l.wf = true) : l.state.p.toNat < 2 ^ l.state.aw := by
  obtain ⟨hq, -, -, -, hpmi, -, -, hstart⟩ := Launch.wf_iff.1 h
  cases hbit : l.state.pmiBit
  · rw [aw_of_pmiBit_false hbit]
    have hoff : (l.pmi == some true) = false := by
      rw [State.pmiBit, Launch.state_config, Launch.state_pmi] at hbit
      cases hp : l.pmi with
      | none => rfl
      | some v => cases v <;> simp_all
    simpa [hoff] using hstart
  · rw [aw_of_pmiBit_true hbit]
    exact Parameters.startAddress_lt hq

theorem Launch.state_inv {l : Launch} (h : l.wf = true) : l.state.Inv := by
  obtain ⟨-, -, -, hdp, hpmi, hrm, hmpe, -⟩ := Launch.wf_iff.1 h
  exact
    { memCanonical := loadImage_wf _ _ ⟨List.Pairwise.nil, nofun⟩
      memInstalled := loadImage_within _ nofun
      pInRange := Launch.state_p_lt h
      dpWired := ne_true_of_wired hdp
      pmiWired := ne_true_of_wired hpmi
      rmWired := ne_true_of_wired hrm
      mpeWired := ne_true_of_wired hmpe }

/-- Settles O6: the reset state by its fields, a launch by what R291 asks of it. -/
theorem resetKeepsTheInvariant : Obligations.ResetKeepsTheInvariant := by
  unfold Obligations.ResetKeepsTheInvariant
  refine ⟨⟨reset_inv, rfl⟩, fun l h => ⟨Launch.state_inv h, rfl, rfl, fun a v hmem => ?_⟩⟩
  obtain ⟨-, hinstalled, hnodup, -⟩ := Launch.wf_iff.1 h
  exact readWord_loadImage_of_mem _ hinstalled hnodup hmem

/-! ### The effective address depends on memory, parameters and mode alone -/

section
variable {s t : State}

theorem wordAt_congr (hmem : t.mem = s.mem) (hconfig : t.config = s.config) (a : Word) : wordAt a t = wordAt a s := by
  rw [wordAt, wordAt, hmem, hconfig]

theorem indexedBy_congr (hmem : t.mem = s.mem) (aw : Nat) (i : Bool) (y : Word) :
    indexedBy aw i y t = indexedBy aw i y s := by
  rw [indexedBy, indexedBy, State.x, State.x, hmem]

theorem normalChain_congr (hmem : t.mem = s.mem) (hconfig : t.config = s.config) (fuel : Nat) (i x : Bool) (y : Word) :
    normalChain fuel i x y t = normalChain fuel i x y s := by
  induction fuel generalizing i x y with
  | zero => cases i <;> simp only [normalChain, indexedBy_congr hmem]
  | succ fuel ih => simp only [normalChain, indexedBy_congr hmem, wordAt_congr hmem hconfig, ih]

theorem extendedChain_congr (hmem : t.mem = s.mem) (hconfig : t.config = s.config) (fuel : Nat) (i : Bool) (y : Word) :
    extendedChain fuel i y t = extendedChain fuel i y s := by
  induction fuel generalizing i y with
  | zero => rfl
  | succ fuel ih => simp only [extendedChain, wordAt_congr hmem hconfig, ih]

theorem resolve_congr (hmem : t.mem = s.mem) (hconfig : t.config = s.config) (hpmi : t.pmi = s.pmi) (i x : Bool)
    (y : Word) : resolve i x y t = resolve i x y s := by
  have hbit : t.pmiBit = s.pmiBit := by rw [State.pmiBit, State.pmiBit, hpmi, hconfig]
  unfold resolve
  rw [hbit]
  simp only [extendedChain_congr hmem hconfig, normalChain_congr hmem hconfig, indexedBy_congr hmem]

end

/-! ### Interrupts (R273 to R275) -/

theorem pmiBit_of_not_ext {s : State} (h : s.config.hasExtendedAddressing = false) : s.pmiBit = false := by
  rw [State.pmiBit, h, Bool.false_and]

/-- Settles O11: the entry stores as an indirect JST through the vector does, after the question has been asked. -/
theorem stepTakesADueInterrupt : Obligations.StepTakesADueInterrupt := by
  unfold Obligations.StepTakesADueInterrupt
  intro s u r hrun hpi henb hrm hext hask hr hmem
  have hdue : interruptDue s = (true, u) := (interruptDue_of_enabled hrun hpi henb).trans hask
  obtain ⟨k, n, hu⟩ : ∃ k n, u = (s.setScript k).setDraws n := by
    have h := askInterrupt_frame s
    rwa [hask] at h
  have hr : resolve true false u.config.intVector u = .next r := by
    have hmem : u.mem = s.mem := by rw [hu]; rfl
    have hconfig : u.config = s.config := by rw [hu]; rfl
    have hpmi : u.pmi = s.pmi := by rw [hu]; rfl
    rw [resolve_congr hmem hconfig hpmi, hconfig, hr]
  have hpmi : u.pmiBit = false := pmiBit_of_not_ext (by subst hu; exact hext)
  refine ⟨⟨k, n, hu⟩, ?_, onlyReadMemory_afterReads _ _⟩
  rw [step_of_due hrun hrm (by rw [hdue]), hdue]
  refine takeInterrupt_eq_next.2 ⟨by subst hu; exact hext, interruptEntry_eq_next.2 ⟨r, hr, ?_, ?_, ?_⟩⟩
  · subst hu; exact hmem
  · subst hu; exact hrm
  · rw [hpmi, aw_of_pmiBit_false hpmi]
    subst hu
    simp only [linkWord, Bool.false_eq_true, if_false, wrapAddr, State.setDraws_mem, State.setScript_mem,
      State.setDraws_p, State.setScript_p]

theorem bit_eq_false_of_lt {v : Word} {i : Nat} (h : v.toNat < 2 ^ (16 - i)) : bit v i = false :=
  Nat.testBit_lt_two_pow h

theorem and_3FFF_of_lt {v : Word} (h : v.toNat < 2 ^ 14) : v &&& 0x3FFF = v :=
  BitVec.eq_of_toNat_eq ((Nat.and_two_pow_sub_one_eq_mod v.toNat 14).trans (Nat.mod_eq_of_lt h))

theorem and_7FFF_of_lt {v : Word} (h : v.toNat < 2 ^ 15) : v &&& 0x7FFF = v :=
  BitVec.eq_of_toNat_eq ((Nat.and_two_pow_sub_one_eq_mod v.toNat 15).trans (Nat.mod_eq_of_lt h))

theorem and_8000_of_bit {m : Word} (h : bit m 1 = false) : m &&& 0x8000 = 0 := by
  have h15 : m[15] = false := h
  ext k hk
  interval_cases k <;> simp [h15]

theorem and_C000_of_bits {m : Word} (h : bit m 1 = false) (h' : bit m 2 = false) : m &&& 0xC000 = 0 := by
  have h15 : m[15] = false := h
  have h14 : m[14] = false := h'
  ext k hk
  interval_cases k <;> simp [h15, h14]

/-- An indirect reference to a word that is an address of the mode goes to that address. -/
theorem resolve_through_address {s : State} {a v : Word} (ha : wordAt a s = .next v) (hv : v.toNat < 2 ^ s.aw) :
    resolve true false a s = .next { ea := v, path := [a] } := by
  cases hpmi : s.pmiBit
  · rw [aw_of_pmiBit_false hpmi] at hv
    rw [resolve_normal_direct (i := a) hpmi rfl ha (bit_eq_false_of_lt (lt_trans hv (by decide))),
      bit_eq_false_of_lt (i := 2) hv, indexedBy_false, and_3FFF_of_lt hv]
  · rw [aw_of_pmiBit_true hpmi] at hv
    rw [resolve_extended_direct hpmi ha (bit_eq_false_of_lt hv), indexedBy_false, and_7FFF_of_lt hv]

/-- The bits of the link word that a jump-and-store keeps are clear (R182). -/
def LinkClear (extended : Bool) (m : Word) : Prop := bit m 1 = false ∧ (extended = false → bit m 2 = false)

theorem linkWord_of_clear {s : State} {m : Word} (hm : LinkClear s.pmiBit m) (hp : s.p.toNat < 2 ^ s.aw) :
    linkWord s.pmiBit m s.p = s.p := by
  obtain ⟨h1, h2⟩ := hm
  cases hpmi : s.pmiBit
  · rw [aw_of_pmiBit_false hpmi] at hp
    rw [linkWord, if_neg (by decide), and_C000_of_bits h1 (h2 hpmi), and_3FFF_of_lt hp]
    exact BitVec.zero_or
  · rw [aw_of_pmiBit_true hpmi] at hp
    rw [linkWord, if_pos rfl, and_8000_of_bit h1, and_7FFF_of_lt hp]
    exact BitVec.zero_or

/-- After a jump-and-store into a clear link word an indirect reference through that word is to the saved P. -/
theorem resolve_through_link {place : Result Located} {s t : State} {r : Located}
    (h : jumpAndStore place s = .next t) (hplace : place = .next r) (hp : s.p.toNat < 2 ^ s.aw)
    (hlink : LinkClear s.pmiBit (s.mem.readWord r.ea.toNat)) :
    resolve true false r.ea t = .next { ea := s.p, path := [r.ea] } := by
  have haw : t.aw = s.aw := (Keeps.of_jumpAndStore (w := [.p, .mem]) h (by simp) (by simp)).aw (by simp)
  obtain ⟨q, hq, hmem, -, rfl⟩ := jumpAndStore_eq_next.1 h
  obtain rfl : q = r := by rw [hplace] at hq; cases hq; rfl
  refine resolve_through_address (wordAt_eq_next.2 ⟨by simpa using hmem, ?_⟩) (by rwa [haw])
  simp [linkWord_of_clear hlink hp]

/-- Settles O14: the entry is a jump-and-store, and its link word then addresses the interrupted instruction. -/
theorem interruptThenReturn : Obligations.InterruptThenReturn := by
  unfold Obligations.InterruptThenReturn
  intro s link hext hrm hp hvector hlink hlow hword h1 h2
  have hpmi := pmiBit_of_not_ext hext
  have haw := aw_of_pmiBit_false hpmi
  have hr : resolve true false s.config.intVector s = .next { ea := link, path := [s.config.intVector] } :=
    resolve_through_address (wordAt_eq_next.2 ⟨hvector, hword.symm⟩) (by rwa [haw])
  obtain ⟨t, ht⟩ : ∃ t, interruptEntry s = .next t := ⟨_, interruptEntry_eq_next.2 ⟨_, hr, hlink, hrm, rfl⟩⟩
  have hreturn : resolve true false link t = .next { ea := s.p, path := [link] } :=
    resolve_through_link (s := s.setPI false) ht hr (by rw [← haw] at hp; exact hp) ⟨h1, fun _ => h2⟩
  obtain ⟨r, hr', -, -, hstate⟩ := interruptEntry_eq_next.1 ht
  obtain rfl : r = { ea := link, path := [s.config.intVector] } := by rw [hr] at hr'; cases hr'; rfl
  refine ⟨t, _, takeInterrupt_eq_next.2 ⟨hext, ht⟩, ?_, ?_, jumpTo_eq_next.2 ⟨_, hreturn, rfl⟩, rfl⟩
  · rw [hstate]; simp
  · rw [hstate, haw]; rfl

/-- Settles O46: the call is a jump-and-store, and its link word then addresses the instruction after it. -/
theorem callThenReturn : Obligations.CallThenReturn := by
  unfold Obligations.CallThenReturn
  intro m x s t r hplace hp h1 h2 ht hi hx hfirst
  have hreturn : locateMem x t = .next { ea := s.p, path := [r.ea] } := by
    rw [locateMem, hi, hx, hfirst]
    exact resolve_through_link ht hplace.1 hp ⟨h1, h2⟩
  exact ⟨_, exec_jmp_of_located hreturn, rfl⟩

end Sys2Proof.Machine
end

section
/-! Words and numbers of any width under a shift or a rotation: the statements take all places at once, R160 takes them
one by one. -/

namespace Sys2Proof.Machine

variable {w : Nat}

/-! ### One place further -/

theorem mod_succ (hw : 1 < w) (n : Nat) : (n + 1) % w = if n % w + 1 = w then 0 else n % w + 1 := by
  have hn := Nat.mod_lt n (show w > 0 by omega)
  rw [← Nat.mod_add_mod]
  split_ifs with h
  · rw [h, Nat.mod_self]
  · exact Nat.mod_eq_of_lt (by omega)

theorem rotateLeft_zero (x : BitVec w) : x.rotateLeft 0 = x := by
  ext i hi; simp [BitVec.getElem_rotateLeft]

theorem rotateRight_zero (x : BitVec w) : x.rotateRight 0 = x := by
  ext i hi; simp [BitVec.getElem_rotateRight, hi]

theorem rotateLeft_succ (hw : 1 < w) (x : BitVec w) (n : Nat) :
    (x.rotateLeft n).rotateLeft 1 = x.rotateLeft (n + 1) := by
  have hn := Nat.mod_lt n (show w > 0 by omega)
  ext i hi
  simp only [BitVec.getElem_rotateLeft, Nat.mod_eq_of_lt hw, mod_succ hw]
  split_ifs <;> first | omega | (congr 1; omega)

theorem rotateRight_succ (hw : 1 < w) (x : BitVec w) (n : Nat) :
    (x.rotateRight n).rotateRight 1 = x.rotateRight (n + 1) := by
  have hn := Nat.mod_lt n (show w > 0 by omega)
  ext i hi
  simp only [BitVec.getElem_rotateRight, Nat.mod_eq_of_lt hw, mod_succ hw]
  split_ifs <;> first | omega | (congr 1; omega)

/-- The bit that a rotation by one place moves over the end. -/
theorem rotateLeft_one_low (hw : 1 < w) (x : BitVec w) : (x.rotateLeft 1).getLsbD 0 = x.getLsbD (w - 1) := by
  simp [BitVec.getLsbD_rotateLeft, Nat.mod_eq_of_lt hw]

theorem rotateRight_one_high (hw : 1 < w) (x : BitVec w) : (x.rotateRight 1).getLsbD (w - 1) = x.getLsbD 0 := by
  simp [Nat.mod_eq_of_lt hw, show w - 1 < w by omega, (BitVec.getLsbD_eq_getElem (x := x) (show 0 < w by omega)).symm]

/-- The high bit after a shift by `n` places, the next one to leave. -/
theorem shiftLeft_high (hw : 0 < w) (x : BitVec w) (n : Nat) :
    (x <<< n).getLsbD (w - 1) = (decide (n + 1 ≤ w) && x.getLsbD (w - (n + 1))) := by
  rw [BitVec.getLsbD_shiftLeft, decide_eq_true (show w - 1 < w by omega), Bool.true_and]
  by_cases h : n + 1 ≤ w
  · rw [decide_eq_true h, decide_eq_false (show ¬w - 1 < n by omega), show w - 1 - n = w - (n + 1) by omega]
    rfl
  · rw [decide_eq_false h, decide_eq_true (show w - 1 < n by omega)]
    rfl

/-! ### Numbers: overflow as a change of sign (R131, R163, R170) -/

/-- The integer is a value of the two's complement format of `w` bits. -/
abbrev Fits (w : Nat) (x : Int) : Prop := -2 ^ (w - 1) ≤ x ∧ x < 2 ^ (w - 1)

theorem fits_toInt (y : BitVec w) : Fits w y.toInt := ⟨y.le_toInt, BitVec.toInt_lt⟩

theorem toInt_ofInt_of_fits (hw : 0 < w) {x : Int} (h : Fits w x) : (BitVec.ofInt w x).toInt = x :=
  BitVec.toInt_ofInt_eq_self hw h.1 h.2

/-- A shift to the left is a multiplication modulo `2^w`. -/
theorem shiftLeft_eq_ofInt (y : BitVec w) (n : Nat) : y <<< n = BitVec.ofInt w (y.toInt * 2 ^ n) := by
  apply BitVec.eq_of_toInt_eq
  rw [BitVec.toInt_shiftLeft, BitVec.toInt_ofInt, BitVec.toInt_eq_toNat_bmod, Int.bmod_mul_bmod, Nat.shiftLeft_eq]
  push_cast
  rfl

theorem toInt_shiftLeft_of_fits (hw : 0 < w) {y : BitVec w} {n : Nat} (h : Fits w (y.toInt * 2 ^ n)) :
    (y <<< n).toInt = y.toInt * 2 ^ n := by
  rw [shiftLeft_eq_ofInt, toInt_ofInt_of_fits hw h]

/-- Doubling changes the sign exactly where the double does not fit: it is then off by `2^w`. -/
theorem msb_shiftLeft_one (hw : 0 < w) (y : BitVec w) :
    ((y <<< 1).msb != y.msb) = decide ¬Fits w (y.toInt * 2) := by
  obtain ⟨hlo, hhi⟩ := fits_toInt y
  have hpow : ((2 ^ w : Nat) : Int) = 2 * 2 ^ (w - 1) := by
    obtain ⟨k, rfl⟩ : ∃ k, w = k + 1 := ⟨w - 1, by omega⟩
    push_cast; rw [pow_succ]; simp [mul_comm]
  have hdouble : (y <<< 1).toInt = (y.toInt * 2).bmod (2 ^ w) := by
    rw [shiftLeft_eq_ofInt, BitVec.toInt_ofInt, pow_one]
  rw [BitVec.msb_eq_toInt, BitVec.msb_eq_toInt, hdouble, Bool.eq_iff_iff]
  simp only [bne_iff_ne, ne_eq, decide_eq_decide, decide_eq_true_eq]
  unfold Fits
  generalize (2 : Int) ^ (w - 1) = p at *
  by_cases hneg : y.toInt * 2 < -p
  · rw [← Int.add_bmod_right, Int.bmod_eq_of_le_mul_two (by omega) (by omega)]
    omega
  · by_cases hpos : p ≤ y.toInt * 2
    · rw [← Int.sub_bmod_right, Int.bmod_eq_of_le_mul_two (by omega) (by omega)]
      omega
    · rw [Int.bmod_eq_of_le_mul_two (by omega) (by omega)]
      omega

/-- The overflow of `n + 1` places is that of `n` places or a change of sign at the last one. -/
theorem overflow_succ (hw : 0 < w) (y : BitVec w) (n : Nat) :
    decide (¬Fits w (y.toInt * 2 ^ (n + 1))) =
      (decide (¬Fits w (y.toInt * 2 ^ n)) || ((y <<< (n + 1)).msb != (y <<< n).msb)) := by
  rw [BitVec.shiftLeft_add, msb_shiftLeft_one hw]
  by_cases h : Fits w (y.toInt * 2 ^ n)
  · rw [toInt_shiftLeft_of_fits hw h, pow_succ, ← mul_assoc]
    simp [h]
  · have hnext : ¬Fits w (y.toInt * 2 ^ (n + 1)) := by
      intro hfit
      refine h ?_
      rw [pow_succ, ← mul_assoc] at hfit
      unfold Fits at hfit ⊢
      have : (0 : Int) < 2 ^ (w - 1) := by positivity
      omega
    simp [h, hnext]

/-- The condition of the statements on C, in the terms of a format's range. -/
theorem not_fits_16 (x : Int) : decide (¬Fits 16 x) = decide (x < -32768 ∨ x > 32767) :=
  decide_eq_decide.2 (by unfold Fits; norm_num; omega)

theorem not_fits_31 (x : Int) : decide (¬Fits 31 x) = decide (x < -(2 ^ 30) ∨ x > 2 ^ 30 - 1) :=
  decide_eq_decide.2 (by unfold Fits; norm_num; omega)

end Sys2Proof.Machine
end

section
/-! The shift instructions (44_shift.md): one place of each as an operation on one number, any number of places by
induction, and NRM as such a shift by the number of places its loop takes. -/

namespace Sys2Proof.Machine

/-! ### Any number of places -/

theorem shiftRegs_eq {q r : ShiftRegs} (ha : q.a = r.a) (hb : q.b = r.b) (hc : q.c = r.c) : q = r := by
  cases q; cases r; simp_all

theorem repeatStep_succ (f : ShiftRegs → ShiftRegs) (n : Nat) (r : ShiftRegs) :
    repeatStep f (n + 1) r = f (repeatStep f n r) := by
  induction n generalizing r with
  | zero => rfl
  | succ n ih => exact ih (f r)

/-- A closed form `g` of the shifted registers is right if one place takes it from each count to the next. -/
theorem repeatStep_eq {f : ShiftRegs → ShiftRegs} {g : Nat → ShiftRegs} (hstep : ∀ n, f (g n) = g (n + 1)) (n : Nat) :
    repeatStep f n (g 0) = g n := by
  induction n with
  | zero => rfl
  | succ n ih => rw [repeatStep_succ, ih, hstep]

/-- A shift answers the state with the closed form of its registers, SC free. -/
theorem execShift_of_closed {f : ShiftRegs → ShiftRegs} {g : Nat → ShiftRegs} {nf : BitVec 6} {s : State} {n : Nat}
    (hplaces : shiftPlaces nf s = some n) (hzero : g 0 = ⟨s.a, s.b, false⟩) (hstep : ∀ n, f (g n) = g (n + 1)) :
    ∃ k, execShift f nf s =
      .next (((((s.setDraws (s.draws + 1)).setA (g n).a).setB (g n).b).setC (g n).c).setSC k) := by
  refine ⟨Config.freeShiftCount s.draws, execShift_eq_next.2 ⟨n, hplaces, ?_⟩⟩
  rw [← hzero, repeatStep_eq hstep]
  rfl

theorem execShift_refused {nf : BitVec 6} {s : State} (h : shiftPlaces nf s = none) (f : ShiftRegs → ShiftRegs) :
    execShift f nf s = .refused .shiftCountZero := by
  rw [execShift, h]

/-! ### The places of a count field (R84, R161) -/

/-- Settles O35: the count field as a two's complement number of places, and its zero by the parameter. -/
theorem placesOfAShift : Obligations.PlacesOfAShift := by
  unfold Obligations.PlacesOfAShift
  refine ⟨fun nf s h => if_neg h, fun s => ⟨fun h => ?_, fun h => ?_, fun h => ?_, fun h => ?_⟩⟩
  · rw [shiftPlaces, if_pos rfl, h]
  · rw [shiftPlaces, if_pos rfl, h]
  · rw [shiftPlaces, if_pos rfl, h]
    cases Config.zeroFieldShifts64
    · exact .inl rfl
    · exact .inr rfl
  · have hnone : shiftPlaces 0 s = none := by rw [shiftPlaces, if_pos rfl, h]
    simp only [List.forall_mem_cons, List.not_mem_nil, false_imp_iff, implies_true, and_true]
    exact ⟨execShift_refused hnone _, execShift_refused hnone _, execShift_refused hnone _, execShift_refused hnone _,
      execShift_refused hnone _, execShift_refused hnone _, execShift_refused hnone _, execShift_refused hnone _,
      execShift_refused hnone _, execShift_refused hnone _, execShift_refused hnone _, execShift_refused hnone _⟩

/-! ### Bits entering a word -/

theorem getLsbD_oneBit (i : Nat) (b : Bool) (k : Nat) :
    (oneBit i b).getLsbD k = (decide (k < 16) && decide (k = 16 - i) && b) := by
  have hcast : oneBit i b = BitVec.ofNat 16 ((if b then 1 else 0) <<< (16 - i)) := rfl
  rw [hcast, BitVec.getLsbD_ofNat]
  cases b
  · simp
  · rw [if_pos rfl, Nat.one_shiftLeft, Nat.testBit_two_pow, Bool.and_true]
    simp only [eq_comm]

theorem getElem_oneBit (i : Nat) (b : Bool) {k : Nat} (hk : k < 16) : (oneBit i b)[k] = (decide (k = 16 - i) && b) := by
  rw [← BitVec.getLsbD_eq_getElem, getLsbD_oneBit, decide_eq_true hk, Bool.true_and]

/-! ### Shifts of A alone (R163 to R168) -/

section
variable (a b : Word) (c : Bool)

theorem stepAlr_eq : stepAlr ⟨a, b, c⟩ = ⟨a.rotateLeft 1, b, a.getLsbD 15⟩ := by
  refine shiftRegs_eq ?_ rfl rfl
  ext k hk
  simp only [stepAlr, BitVec.getElem_or, BitVec.getElem_shiftLeft, getElem_oneBit, BitVec.getElem_rotateLeft, bit]
  interval_cases k <;> simp [BitVec.getLsbD_eq_getElem]

theorem stepArr_eq : stepArr ⟨a, b, c⟩ = ⟨a.rotateRight 1, b, a.getLsbD 0⟩ := by
  refine shiftRegs_eq ?_ rfl rfl
  ext k hk
  simp only [stepArr, BitVec.getElem_or, BitVec.getElem_ushiftRight, getElem_oneBit, BitVec.getElem_rotateRight, bit]
  interval_cases k <;> simp [BitVec.getLsbD_eq_getElem]

theorem stepArs_eq : stepArs ⟨a, b, c⟩ = ⟨a.sshiftRight 1, b, a.getLsbD 0⟩ := by
  refine shiftRegs_eq ?_ rfl rfl
  ext k hk
  simp only [stepArs, BitVec.getElem_or, BitVec.getElem_and, BitVec.getElem_ushiftRight, BitVec.getElem_sshiftRight]
  interval_cases k <;> simp [BitVec.getLsbD_eq_getElem, BitVec.msb_eq_getLsbD_last]

end

/-- Settles O36: each place moves one bit out of A into C. -/
theorem logicalShiftsOfA : Obligations.LogicalShiftsOfA := by
  unfold Obligations.LogicalShiftsOfA
  intro nf s n hn
  refine ⟨execShift_of_closed (f := stepLgl)
      (g := fun n => ⟨s.a <<< n, s.b, decide (1 ≤ n ∧ n ≤ 16) && s.a.getLsbD (16 - n)⟩) hn (by simp) fun n => ?_,
    execShift_of_closed (f := stepLgr)
      (g := fun n => ⟨s.a >>> n, s.b, decide (1 ≤ n) && s.a.getLsbD (n - 1)⟩) hn (by simp) fun n => ?_⟩
  · refine shiftRegs_eq (BitVec.shiftLeft_add _ _ _).symm rfl ?_
    simpa [stepLgl, bit] using shiftLeft_high (by decide) s.a n
  · refine shiftRegs_eq (BitVec.shiftRight_add _ _ _).symm rfl ?_
    simp [stepLgr, bit]

/-- Settles O37: each place rotates one bit out of A into C and to A's other end. -/
theorem rotatesOfA : Obligations.RotatesOfA := by
  unfold Obligations.RotatesOfA
  intro nf s n hn
  refine ⟨execShift_of_closed (f := stepAlr)
      (g := fun n => ⟨s.a.rotateLeft n, s.b, decide (1 ≤ n) && bit (s.a.rotateLeft n) 16⟩) hn
      (by simp [rotateLeft_zero]) fun n => ?_,
    execShift_of_closed (f := stepArr)
      (g := fun n => ⟨s.a.rotateRight n, s.b, decide (1 ≤ n) && bit (s.a.rotateRight n) 1⟩) hn
      (by simp [rotateRight_zero]) fun n => ?_⟩
  · rw [stepAlr_eq, rotateLeft_succ (by decide), ← rotateLeft_one_low (by decide), rotateLeft_succ (by decide)]
    simp [bit]
  · rw [stepArr_eq, rotateRight_succ (by decide), ← rotateRight_one_high (by decide), rotateRight_succ (by decide)]
    simp [bit]

/-- Settles O38: to the left each place doubles the number, and C keeps the first change of sign. -/
theorem arithmeticShiftsOfA : Obligations.ArithmeticShiftsOfA := by
  unfold Obligations.ArithmeticShiftsOfA
  intro nf s n hn
  refine ⟨?_, execShift_of_closed (f := stepArs)
      (g := fun n => ⟨s.a.sshiftRight n, s.b, decide (1 ≤ n) && bit (s.a.sshiftRight (n - 1)) 16⟩) hn (by simp)
      fun n => ?_⟩
  · rw [← not_fits_16]
    have hzero : decide (¬Fits 16 (s.a.toInt * 2 ^ 0)) = false := by
      rw [pow_zero, mul_one, decide_eq_false (not_not.2 (fits_toInt s.a))]
    exact execShift_of_closed (f := stepAls)
      (g := fun n => ⟨s.a <<< n, s.b, decide ¬Fits 16 (s.a.toInt * 2 ^ n)⟩) hn
      (by rw [hzero, BitVec.shiftLeft_zero]) fun n => by
        rw [overflow_succ (by decide), BitVec.shiftLeft_add, BitVec.msb_eq_getLsbD_last, BitVec.msb_eq_getLsbD_last]
        rfl
  · rw [stepArs_eq, ← BitVec.sshiftRight_add]
    simp [bit]

/-! ### Long logical shifts and rotates (R172 to R175): A above B as one number of 32 bits -/

/-- A and B holding a number of 32 bits. -/
def longRegs (x : BitVec 32) (c : Bool) : ShiftRegs := ⟨x.extractLsb' 16 16, x.extractLsb' 0 16, c⟩

theorem longRegs_append (a b : Word) (c : Bool) : longRegs (a ++ b) c = ⟨a, b, c⟩ := by
  rw [longRegs, BitVec.extractLsb'_append_eq_left, BitVec.extractLsb'_append_eq_right]

section
variable (x : BitVec 32) (c : Bool)

theorem stepLll_longRegs : stepLll (longRegs x c) = longRegs (x <<< 1) (x.getLsbD 31) := by
  refine shiftRegs_eq (BitVec.eq_of_getElem_eq fun k hk => ?_) (BitVec.eq_of_getElem_eq fun k hk => ?_)
    (by simp [stepLll, longRegs, bit])
  all_goals
    simp only [stepLll, longRegs, BitVec.getElem_or, BitVec.getElem_shiftLeft, BitVec.getElem_extractLsb',
      getElem_oneBit, bit, BitVec.getLsbD_shiftLeft, BitVec.getLsbD_extractLsb']
    interval_cases k <;> simp

theorem stepLrl_longRegs : stepLrl (longRegs x c) = longRegs (x >>> 1) (x.getLsbD 0) := by
  refine shiftRegs_eq (BitVec.eq_of_getElem_eq fun k hk => ?_) (BitVec.eq_of_getElem_eq fun k hk => ?_)
    (by simp [stepLrl, longRegs, bit])
  all_goals
    simp only [stepLrl, longRegs, BitVec.getElem_or, BitVec.getElem_ushiftRight, BitVec.getElem_extractLsb',
      getElem_oneBit, bit, BitVec.getLsbD_ushiftRight, BitVec.getLsbD_extractLsb']
    interval_cases k <;> simp

theorem stepLlr_longRegs : stepLlr (longRegs x c) = longRegs (x.rotateLeft 1) (x.getLsbD 31) := by
  refine shiftRegs_eq (BitVec.eq_of_getElem_eq fun k hk => ?_) (BitVec.eq_of_getElem_eq fun k hk => ?_)
    (by simp [stepLlr, longRegs, bit])
  all_goals
    simp only [stepLlr, longRegs, BitVec.getElem_or, BitVec.getElem_shiftLeft, BitVec.getElem_extractLsb',
      getElem_oneBit, bit, BitVec.getLsbD_rotateLeft, BitVec.getLsbD_extractLsb']
    interval_cases k <;> simp

theorem stepLrr_longRegs : stepLrr (longRegs x c) = longRegs (x.rotateRight 1) (x.getLsbD 0) := by
  refine shiftRegs_eq (BitVec.eq_of_getElem_eq fun k hk => ?_) (BitVec.eq_of_getElem_eq fun k hk => ?_)
    (by simp [stepLrr, longRegs, bit])
  all_goals
    simp only [stepLrr, longRegs, BitVec.getElem_or, BitVec.getElem_ushiftRight, BitVec.getElem_extractLsb',
      getElem_oneBit, bit, BitVec.getLsbD_rotateRight, BitVec.getLsbD_extractLsb']
    interval_cases k <;> simp

end

/-- Settles O39: each place moves one bit out of the number of 32 bits into C. -/
theorem longLogicalShifts : Obligations.LongLogicalShifts := by
  unfold Obligations.LongLogicalShifts
  intro nf s n hn
  generalize hx : (s.a ++ s.b : BitVec 32) = x
  have hzero : longRegs x false = ⟨s.a, s.b, false⟩ := by rw [← hx, longRegs_append]
  refine ⟨execShift_of_closed (f := stepLll)
      (g := fun n => longRegs (x <<< n) (decide (1 ≤ n ∧ n ≤ 32) && x.getLsbD (32 - n))) hn (by simpa using hzero)
      fun n => ?_,
    execShift_of_closed (f := stepLrl)
      (g := fun n => longRegs (x >>> n) (decide (1 ≤ n) && x.getLsbD (n - 1))) hn (by simpa using hzero) fun n => ?_⟩
  · rw [stepLll_longRegs, ← BitVec.shiftLeft_add]
    congr 1
    simpa using shiftLeft_high (by decide) x n
  · rw [stepLrl_longRegs, ← BitVec.shiftRight_add]
    simp

/-- Settles O40: each place rotates one bit out of the number of 32 bits into C and to its other end. -/
theorem longRotates : Obligations.LongRotates := by
  unfold Obligations.LongRotates
  intro nf s n hn
  generalize hx : (s.a ++ s.b : BitVec 32) = x
  have hzero : longRegs x false = ⟨s.a, s.b, false⟩ := by rw [← hx, longRegs_append]
  refine ⟨execShift_of_closed (f := stepLlr)
      (g := fun n => longRegs (x.rotateLeft n) (decide (1 ≤ n) && (x.rotateLeft n).getLsbD 0)) hn
      (by simpa [rotateLeft_zero] using hzero)
      fun n => ?_,
    execShift_of_closed (f := stepLrr)
      (g := fun n => longRegs (x.rotateRight n) (decide (1 ≤ n) && (x.rotateRight n).getLsbD 31)) hn
      (by simpa [rotateRight_zero] using hzero) fun n => ?_⟩
  · rw [stepLlr_longRegs, ← rotateLeft_one_low (by decide), rotateLeft_succ (by decide)]
    simp
  · rw [stepLrr_longRegs, ← rotateRight_one_high (by decide), rotateRight_succ (by decide)]
    simp

end Sys2Proof.Machine
end

section
/-! The long arithmetic shifts and normalise (44_shift.md sections 3 and 4): A above bits 2 to 16 of B as one number of
31 bits, with bit 1 of B beside it. -/

namespace Sys2Proof.Machine

/-! ### The 31-bit number in A and B (R109, R169) -/

/-- A and B holding a number of 31 bits, and in bit 1 of B the bit `kept`. -/
def numRegs (y : BitVec 31) (kept c : Bool) : ShiftRegs := ⟨dpHi y, BitVec.ofBool kept ++ y.extractLsb' 0 15, c⟩

section
variable (y : BitVec 31) (kept c : Bool)

theorem dpNum_numRegs : dpNum (numRegs y kept c).a (numRegs y kept c).b = y := by
  have hlow : (numRegs y kept c).b.extractLsb' 0 15 = y.extractLsb' 0 15 := BitVec.extractLsb'_append_eq_right
  rw [dpNum, hlow]
  exact BitVec.extractLsb'_append_extractLsb' (w := 16) (len := 15)

theorem bit_one_numRegs : bit (numRegs y kept c).b 1 = kept := by
  simp only [bit, numRegs, BitVec.getLsbD_append]; simp

theorem bit_one_numRegs_a : bit (numRegs y kept c).a 1 = y.getLsbD 30 := by
  simp [bit, numRegs, dpHi]

theorem bit_two_numRegs_a : bit (numRegs y kept c).a 2 = y.getLsbD 29 := by
  simp [bit, numRegs, dpHi]

theorem numRegs_dpNum (a b : Word) (c : Bool) : numRegs (dpNum a b) (bit b 1) c = ⟨a, b, c⟩ := by
  have hb : BitVec.ofBool (bit b 1) ++ (dpNum a b).extractLsb' 0 15 = b := by
    rw [dpNum, BitVec.extractLsb'_append_eq_right]
    ext k hk
    simp only [bit, BitVec.getElem_append]
    interval_cases k <;> simp [BitVec.getLsbD_eq_getElem]
  rw [numRegs, hb, dpHi, dpNum, BitVec.extractLsb'_append_eq_left]

theorem getLsbD_numRegs_a (k : Nat) :
    (numRegs y kept c).a.getLsbD k = (decide (k < 16) && y.getLsbD (15 + k)) := by
  rw [numRegs, dpHi, BitVec.getLsbD_extractLsb']

theorem getLsbD_numRegs_b (k : Nat) :
    (numRegs y kept c).b.getLsbD k = if k < 15 then y.getLsbD k else decide (k = 15) && kept := by
  rw [numRegs, BitVec.getLsbD_append, BitVec.getLsbD_ofBool, BitVec.getLsbD_extractLsb', zero_add]
  split_ifs with h
  · rw [decide_eq_true h, Bool.true_and]
  · rw [decide_eq_decide.2 (show k - 15 = 0 ↔ k = 15 by omega)]

theorem bit_sixteen_numRegs : bit (numRegs y kept c).b 16 = y.getLsbD 0 := by
  rw [bit, getLsbD_numRegs_b]; rfl

theorem leftOne_numRegs : leftOne (numRegs y kept c) = numRegs (y <<< 1) kept c := by
  refine shiftRegs_eq ?_ ?_ rfl <;> refine BitVec.eq_of_getLsbD_eq fun k hk => ?_ <;>
    simp only [leftOne, BitVec.getLsbD_or, BitVec.getLsbD_and, BitVec.getLsbD_shiftLeft, getLsbD_oneBit, bit,
      getLsbD_numRegs_a, getLsbD_numRegs_b] <;>
    interval_cases k <;> simp

theorem stepLls_numRegs :
    stepLls (numRegs y kept c) = numRegs (y <<< 1) kept (c || ((y <<< 1).msb != y.msb)) := by
  refine shiftRegs_eq ?_ ?_ ?_
  · rw [stepLls, leftOne_numRegs]; rfl
  · rw [stepLls, leftOne_numRegs]; rfl
  · rw [stepLls, leftOne_numRegs, bit_one_numRegs_a, bit_one_numRegs_a, BitVec.msb_eq_getLsbD_last,
      BitVec.msb_eq_getLsbD_last]
    rfl

theorem stepLrs_numRegs : stepLrs (numRegs y kept c) = numRegs (y.sshiftRight 1) kept (y.getLsbD 0) := by
  refine shiftRegs_eq ?_ ?_ (bit_sixteen_numRegs y kept c) <;>
    refine BitVec.eq_of_getLsbD_eq fun k hk => ?_ <;>
    simp only [stepLrs, BitVec.getLsbD_or, BitVec.getLsbD_and, BitVec.getLsbD_ushiftRight, getLsbD_oneBit, bit,
      getLsbD_numRegs_a, getLsbD_numRegs_b, BitVec.getLsbD_sshiftRight, BitVec.msb_eq_getLsbD_last] <;>
    interval_cases k <;> simp

end

/-- Settles O41: to the left each place doubles the number, and C keeps the first change of sign. -/
theorem longArithmeticShifts : Obligations.LongArithmeticShifts := by
  unfold Obligations.LongArithmeticShifts
  intro nf s n hn
  have hzero := numRegs_dpNum s.a s.b false
  generalize dpNum s.a s.b = y at hzero ⊢
  have hfits : decide (¬Fits 31 (y.toInt * 2 ^ 0)) = false := by
    rw [pow_zero, mul_one, decide_eq_false (not_not.2 (fits_toInt y))]
  obtain ⟨k, hlls⟩ := execShift_of_closed (f := stepLls)
    (g := fun n => numRegs (y <<< n) (bit s.b 1) (decide ¬Fits 31 (y.toInt * 2 ^ n))) hn
    (by rw [hfits, BitVec.shiftLeft_zero, hzero]) fun n => by
      rw [stepLls_numRegs, overflow_succ (by decide), BitVec.shiftLeft_add]
  obtain ⟨k', hlrs⟩ := execShift_of_closed (f := stepLrs)
    (g := fun n => numRegs (y.sshiftRight n) (bit s.b 1) (decide (1 ≤ n) && (y.sshiftRight (n - 1)).getLsbD 0)) hn
    (by simpa using hzero) fun n => by
      rw [stepLrs_numRegs, ← BitVec.sshiftRight_add]
      simp
  rw [← not_fits_31]
  exact ⟨⟨_, _, k, hlls, dpNum_numRegs _ _ _, bit_one_numRegs _ _ _⟩,
    _, _, k', hlrs, dpNum_numRegs _ _ _, bit_one_numRegs _ _ _⟩

/-! ### The places of the loop of R176 -/

/-- The number of places that the loop with `NRM_LIMIT = limit` takes on a number. -/
def normalPlaces : Nat → BitVec 31 → Nat
  | 0, _ => 0
  | limit + 1, y => if y.getLsbD 30 = y.getLsbD 29 then normalPlaces limit (y <<< 1) + 1 else 0

theorem normalise_numRegs (limit : Nat) (y : BitVec 31) (kept c : Bool) :
    normalise limit (numRegs y kept c) = (numRegs (y <<< normalPlaces limit y) kept c, normalPlaces limit y) := by
  induction limit generalizing y with
  | zero => rw [normalise, normalPlaces, BitVec.shiftLeft_zero]
  | succ limit ih =>
    rw [normalise, normalPlaces, bit_one_numRegs_a, bit_two_numRegs_a]
    split_ifs
    · rw [leftOne_numRegs, ih, ← BitVec.shiftLeft_add, add_comm 1]
    · rw [BitVec.shiftLeft_zero]

/-- While the first two bits agree doubling keeps the value. -/
theorem fits_double_of_bits_eq {y : BitVec 31} (h : y.getLsbD 30 = y.getLsbD 29) : Fits 31 (y.toInt * 2) := by
  have hsign := msb_shiftLeft_one (by decide) y
  have hnext : (y <<< 1).msb = y.getLsbD 29 := by rw [BitVec.msb_eq_getLsbD_last]; simp
  rw [hnext, BitVec.msb_eq_getLsbD_last, ← h, bne_self_eq_false] at hsign
  exact not_not.1 (of_decide_eq_false hsign.symm)

section
variable (limit : Nat) (y : BitVec 31)

theorem normalPlaces_le : normalPlaces limit y ≤ limit := by
  induction limit generalizing y with
  | zero => exact le_rfl
  | succ limit ih =>
    rw [normalPlaces]
    split_ifs
    · exact Nat.succ_le_succ (ih _)
    · exact Nat.zero_le _

/-- The shifted number has the value it stands for: no place of the loop overflows. -/
theorem normalPlaces_fits : Fits 31 (y.toInt * 2 ^ normalPlaces limit y) := by
  induction limit generalizing y with
  | zero => simpa [normalPlaces] using fits_toInt y
  | succ limit ih =>
    rw [normalPlaces]
    split_ifs with h
    · have hdouble : (y <<< 1).toInt = y.toInt * 2 := by
        rw [toInt_shiftLeft_of_fits (by decide) (by rw [pow_one]; exact fits_double_of_bits_eq h), pow_one]
      have hfits := ih (y <<< 1)
      rwa [hdouble, mul_assoc, ← pow_succ'] at hfits
    · simpa using fits_toInt y

/-- A loop that stops before its limit stops because the first two bits differ. -/
theorem normalPlaces_stops (h : normalPlaces limit y < limit) :
    (y <<< normalPlaces limit y).getLsbD 30 ≠ (y <<< normalPlaces limit y).getLsbD 29 := by
  induction limit generalizing y with
  | zero => exact absurd h (lt_irrefl _)
  | succ limit ih =>
    rw [normalPlaces] at h ⊢
    split_ifs at h ⊢ with hbits
    · rw [add_comm, BitVec.shiftLeft_add]
      exact ih _ (Nat.lt_of_succ_lt_succ h)
    · rwa [BitVec.shiftLeft_zero]

theorem toInt_normalPlaces : (y <<< normalPlaces limit y).toInt = y.toInt * 2 ^ normalPlaces limit y :=
  toInt_shiftLeft_of_fits (by decide) (normalPlaces_fits limit y)

end

/-- Any number but 0 and -1 overflows within 30 places, so the loop takes at most 29. -/
theorem normalPlaces_le_29 {limit : Nat} {y : BitVec 31} (hzero : y.toInt ≠ 0) (hones : y.toInt ≠ -1) :
    normalPlaces limit y ≤ 29 := by
  by_contra hlong
  obtain ⟨hlo, hhi⟩ := normalPlaces_fits limit y
  have hpow : (2 : Int) ^ 30 ≤ 2 ^ normalPlaces limit y := pow_le_pow_right₀ (by norm_num) (not_le.1 hlong)
  generalize (2 : Int) ^ normalPlaces limit y = p at hlo hhi hpow
  norm_num at hlo hhi hpow
  rcases lt_or_gt_of_ne hzero with hneg | hpos
  · have hprod := mul_le_mul_of_nonneg_right (show y.toInt ≤ -2 by omega) (show 0 ≤ p by omega)
    omega
  · have hprod := mul_le_mul_of_nonneg_right (show 1 ≤ y.toInt by omega) (show 0 ≤ p by omega)
    omega

theorem normalPlaces_zero (limit : Nat) : normalPlaces limit 0 = limit := by
  refine le_antisymm (normalPlaces_le limit 0) (not_lt.1 fun h => normalPlaces_stops limit 0 h ?_)
  simp

theorem toInt_allOnes_31 : (BitVec.allOnes 31).toInt = -1 := by decide

/-- Thirty places leave of the all ones number the first bit alone, and one more does not fit. -/
theorem normalPlaces_allOnes (limit : Nat) : normalPlaces limit (BitVec.allOnes 31) = min limit 30 := by
  have hle := normalPlaces_le limit (BitVec.allOnes 31)
  have hstops := normalPlaces_stops limit (BitVec.allOnes 31)
  have hfits := (normalPlaces_fits limit (BitVec.allOnes 31)).1
  rw [toInt_allOnes_31] at hfits
  generalize normalPlaces limit (BitVec.allOnes 31) = k at *
  have hlong : k ≤ 30 := by
    by_contra hk
    have hpow : (2 : Int) ^ 31 ≤ 2 ^ k := pow_le_pow_right₀ (by norm_num) (not_le.1 hk)
    norm_num at hfits hpow
    omega
  have hshort : k < limit → 30 ≤ k := by
    intro h
    by_contra hk
    refine hstops h ?_
    simp only [BitVec.getLsbD_shiftLeft, BitVec.getLsbD_allOnes]
    simp [show ¬30 < k by omega, show ¬29 < k by omega, show 30 - k < 31 by omega, show 29 - k < 31 by omega]
  omega

/-! ### NRM (R176) -/

/-- What `NRM_FN` says of C and of the number of draws after NRM. -/
def NrmCarrySpec (s : State) (n : Nat) (c : Bool) : Prop :=
  (s.config.nrmFn.carry = .draws → n = s.draws + 1) ∧ (∀ v, s.config.nrmFn.carry = .fixed v → c = v ∧ n = s.draws) ∧
    (s.config.nrmFn.carry = .kept → c = s.c ∧ n = s.draws)

theorem nrmCarry_spec (s : State) :
    ∃ n, (nrmCarry s.config.nrmFn.carry s).2 = s.setDraws n ∧
      NrmCarrySpec s n (nrmCarry s.config.nrmFn.carry s).1 := by
  unfold NrmCarrySpec
  cases s.config.nrmFn.carry
  · exact ⟨s.draws + 1, rfl, fun _ => rfl, nofun, nofun⟩
  · exact ⟨s.draws, rfl, nofun, fun _ hv => by cases hv; exact ⟨rfl, rfl⟩, nofun⟩
  · exact ⟨s.draws, rfl, nofun, nofun, fun _ => ⟨rfl, rfl⟩⟩

/-- NRM's result is a long shift of the number by the places of the loop. -/
theorem normalised_eq (limit : Nat) (s : State) :
    ∃ n c, NrmCarrySpec s n c ∧
      normalised limit s =
        ((((s.setDraws n).setA (numRegs (dpNum s.a s.b <<< normalPlaces limit (dpNum s.a s.b)) (bit s.b 1) s.c).a).setB
          (numRegs (dpNum s.a s.b <<< normalPlaces limit (dpNum s.a s.b)) (bit s.b 1) s.c).b).setSC
          (nrmShiftCount s.config.nrmFn.count (normalPlaces limit (dpNum s.a s.b)))).setC c := by
  obtain ⟨n, hdraws, hspec⟩ := nrmCarry_spec s
  refine ⟨n, _, hspec, ?_⟩
  simp only [normalised, hdraws]
  rw [← numRegs_dpNum s.a s.b s.c, normalise_numRegs]

theorem nrmShiftCount_spec (f : NrmCount) (k : Nat) :
    (f = .places → nrmShiftCount f k = BitVec.ofNat 5 k) ∧
      (f = .onesComplement → nrmShiftCount f k = ~~~BitVec.ofNat 5 k) ∧
      (f = .twosComplement → nrmShiftCount f k = -BitVec.ofNat 5 k) := by
  refine ⟨?_, ?_, ?_⟩ <;> rintro rfl <;> rfl

theorem exec_nrm (s : State) : exec .nrm s = execNrm s := rfl

/-- The limit with which NRM runs its loop, `none` where it is refused (R176). -/
def nrmLimitOf (s : State) : Option Nat :=
  match s.config.nrmFn.limit with
  | .limit n => some n
  | .refuse => if unnormalisable s.a s.b then none else some ampleLimit
  | .undecided => some (if unnormalisable s.a s.b then Config.nrmLimit else ampleLimit)

theorem exec_nrm_of_limit {s : State} {limit : Nat} (hhsa : s.config.hasHsa = true) (h : nrmLimitOf s = some limit) :
    exec .nrm s = .next (normalised limit s) := by
  rw [exec_nrm, execNrm, hhsa, needs_true]
  unfold nrmLimitOf at h
  cases hlimit : s.config.nrmFn.limit with
  | limit n => rw [hlimit] at h; cases h; rfl
  | refuse => rw [hlimit] at h; dsimp only at h ⊢; split_ifs at h ⊢; cases h; rfl
  | undecided => rw [hlimit] at h; dsimp only at h ⊢; split_ifs at h ⊢ <;> (cases h; rfl)

theorem exec_nrm_refused {s : State} (hhsa : s.config.hasHsa = true) (h : nrmLimitOf s = none) :
    exec .nrm s = .refused .nrmOperandUndecided := by
  rw [exec_nrm, execNrm, hhsa, needs_true]
  unfold nrmLimitOf at h
  cases hlimit : s.config.nrmFn.limit with
  | limit n => rw [hlimit] at h; cases h
  | refuse => rw [hlimit] at h; dsimp only at h ⊢; split_ifs at h ⊢; rfl
  | undecided => rw [hlimit] at h; cases h

theorem unnormalisable_eq_true {a b : Word} :
    unnormalisable a b = true ↔ dpNum a b = 0 ∨ dpNum a b = BitVec.allOnes 31 := by
  simp only [unnormalisable, Bool.or_eq_true, beq_iff_eq]

theorem unnormalisable_eq_false {a b : Word} :
    unnormalisable a b = false ↔ (dpNum a b).toInt ≠ 0 ∧ (dpNum a b).toInt ≠ -1 := by
  rw [← Bool.not_eq_true, unnormalisable_eq_true, not_or]
  refine and_congr (not_congr ?_) (not_congr ?_)
  · exact (BitVec.toInt_inj (y := 0)).symm
  · rw [← toInt_allOnes_31, BitVec.toInt_inj]

/-- Settles O42: such a number overflows before the limit, so its loop stops at two different bits. -/
theorem normaliseShiftsUntilTheFirstTwoBitsDiffer : Obligations.NormaliseShiftsUntilTheFirstTwoBitsDiffer := by
  unfold Obligations.NormaliseShiftsUntilTheFirstTwoBitsDiffer
  refine ⟨fun s hhsa hnum hlimit => ?_, fun s hhsa => by rw [exec_nrm, execNrm, hhsa, needs_false]⟩
  obtain ⟨limit, hrun, hample⟩ : ∃ limit, nrmLimitOf s = some limit ∧ 30 ≤ limit := by
    unfold nrmLimitOf
    rcases hlimit with h | h | ⟨n, h, hn⟩ <;> rw [h]
    · exact ⟨ampleLimit, by simp [hnum], le_rfl⟩
    · exact ⟨ampleLimit, by simp [hnum], le_rfl⟩
    · exact ⟨n, rfl, hn⟩
  obtain ⟨hzero, hones⟩ := unnormalisable_eq_false.1 hnum
  obtain ⟨n, c, ⟨hdraws, hfixed, hkept⟩, hstate⟩ := normalised_eq limit s
  obtain ⟨hplaces, hone, htwo⟩ := nrmShiftCount_spec s.config.nrmFn.count (normalPlaces limit (dpNum s.a s.b))
  have hle : normalPlaces limit (dpNum s.a s.b) ≤ 29 := normalPlaces_le_29 hzero hones
  refine ⟨_, _, normalPlaces limit (dpNum s.a s.b), n, _, c, (exec_nrm_of_limit hhsa hrun).trans (by rw [hstate]), hle,
    ?_, ?_, bit_one_numRegs _ _ _, hplaces, hone, htwo, hdraws, hfixed, hkept⟩
  · rw [bit_one_numRegs_a, bit_two_numRegs_a]
    exact normalPlaces_stops limit _ (by omega)
  · rw [dpNum_numRegs, toInt_normalPlaces]

theorem numRegs_zero_b (b : Word) (c : Bool) : (numRegs 0 (bit b 1) c).b = b &&& 0x8000 := by
  refine BitVec.eq_of_getLsbD_eq fun k hk => ?_
  rw [getLsbD_numRegs_b, BitVec.getLsbD_and, bit]
  interval_cases k <;> simp

/-- Settles O43: the places of the loop on the two uniform numbers. -/
theorem normaliseOfAUniformNumber : Obligations.NormaliseOfAUniformNumber := by
  unfold Obligations.NormaliseOfAUniformNumber
  intro s hhsa hnum
  refine ⟨fun h => exec_nrm_refused hhsa (by rw [nrmLimitOf, h]; simp [hnum]), fun h => ?_⟩
  obtain ⟨limit, hrun, hgiven, hundecided⟩ : ∃ limit, nrmLimitOf s = some limit ∧
      (∀ given, s.config.nrmFn.limit = .limit given → limit = given) ∧
      (s.config.nrmFn.limit = .undecided → limit = Config.nrmLimit) := by
    unfold nrmLimitOf
    cases hlimit : s.config.nrmFn.limit
    · exact absurd hlimit h
    · exact ⟨_, rfl, fun _ hg => by cases hg; rfl, nofun⟩
    · exact ⟨_, by simp [hnum], nofun, fun _ => rfl⟩
  have huniform := unnormalisable_eq_true.1 hnum
  obtain ⟨n, c, ⟨hdraws, hfixed, hkept⟩, hstate⟩ := normalised_eq limit s
  obtain ⟨hplaces, hone, htwo⟩ := nrmShiftCount_spec s.config.nrmFn.count (normalPlaces limit (dpNum s.a s.b))
  refine ⟨_, _, normalPlaces limit (dpNum s.a s.b), n, limit, _, c,
    (exec_nrm_of_limit hhsa hrun).trans (by rw [hstate]), hgiven, hundecided, ?_, dpNum_numRegs _ _ _,
    bit_one_numRegs _ _ _, fun hy => ?_, fun hy hlim => ?_, hplaces, hone, htwo, hdraws, hfixed, hkept⟩
  · rcases huniform with hy | hy <;> rw [hy]
    · rw [normalPlaces_zero, if_pos rfl]
    · rw [normalPlaces_allOnes, if_neg (by decide)]
  · rw [hy, BitVec.ofNat_eq_ofNat, BitVec.zero_shiftLeft]
    exact ⟨rfl, numRegs_zero_b s.b s.c⟩
  · have hy := huniform.resolve_left hy
    rw [bit_one_numRegs_a, bit_two_numRegs_a, hy, normalPlaces_allOnes, Nat.min_eq_right hlim]
    decide

end Sys2Proof.Machine
end

section
/-! The arithmetic instructions (42_arithmetic.md): exact results on integers, their reduction to a format where they
fit it, and the roundings of DIV. -/

namespace Sys2Proof.Machine

/-! ### Operands -/

theorem secondAddress_eq (ea : Word) (s : State) :
    secondAddress ea s = BitVec.ofNat 16 ((ea.toNat + 1) % 2 ^ s.aw) := rfl

/-- A double-word operand in installed memory is handed on, after the reads of its chain and of both its words. -/
theorem withDouble_of_installed {place : Result Located} {s : State} {r : Located} (hplace : place = .next r)
    (hfirst : r.ea.toNat < s.config.memWords) (hsecond : (secondAddress r.ea s).toNat < s.config.memWords)
    (k : Word → Word → State → Result State) :
    withDouble place s k =
      k (s.mem.readWord r.ea.toNat) (s.mem.readWord (secondAddress r.ea s).toNat)
        (afterReads (r.path ++ [r.ea, secondAddress r.ea s]) s) := by
  rw [withDouble, hplace, andThen_next, wordAt_of_lt hfirst, andThen_next, wordAt_of_lt hsecond, andThen_next]

/-! ### Formats -/

theorem dpLo_eq (y : BitVec 31) : dpLo y = (numRegs y false false).b :=
  BitVec.setWidth_eq_append (w := 16) (by decide)

theorem dpNum_dpHi_dpLo (y : BitVec 31) : dpNum (dpHi y) (dpLo y) = y := by
  rw [dpLo_eq]; exact dpNum_numRegs y false false

theorem bit_one_dpLo (y : BitVec 31) : bit (dpLo y) 1 = false := by
  rw [dpLo_eq]; exact bit_one_numRegs y false false

theorem toInt_u31_of_fits {n : Int} (h : Fits 31 n) : (u31 n).toInt = n := toInt_ofInt_of_fits (by decide) h

theorem toInt_u16_of_fits {n : Int} (h : Fits 16 n) : (u16 n).toInt = n := toInt_ofInt_of_fits (by decide) h

/-- Adding a word and an integer of few bits is the addition of words (R9). -/
theorem u16_s16_add (w v : Word) : u16 (s16 w + s16 v) = w + v := by
  rw [u16, s16, s16, BitVec.ofInt_add, BitVec.ofInt_toInt, BitVec.ofInt_toInt]

theorem word_bounds (w : Word) : -32768 ≤ w.toInt ∧ w.toInt ≤ 32767 := by
  obtain ⟨hlo, hhi⟩ := fits_toInt w
  norm_num at hlo hhi
  omega

/-- Only one word has a given signed value. -/
theorem toInt_eq_iff {w v : Word} : w.toInt = v.toInt ↔ w = v := BitVec.toInt_inj

/-! ### ADD, SUB and ERA (R132, R134, R151) -/

section
variable {m : MemRef} {s : State} {r : Located}

theorem exec_add_of_operandAt (h : OperandAt m s r) :
    exec (.add m) s =
      .next (putSum (s16 s.a + s16 (s.mem.readWord r.ea.toNat)) (afterReads (r.path ++ [r.ea]) s)) := by
  rw [exec_add, execAdd, withOperand_of_installed h.1 h.2, afterReads_a]

theorem exec_sub_of_operandAt (h : OperandAt m s r) :
    exec (.sub m) s =
      .next (putSum (s16 s.a - s16 (s.mem.readWord r.ea.toNat)) (afterReads (r.path ++ [r.ea]) s)) := by
  rw [exec_sub, execSub, withOperand_of_installed h.1 h.2, afterReads_a]

theorem exec_era_of_operandAt (h : OperandAt m s r) :
    exec (.era m) s = .next ((afterReads (r.path ++ [r.ea]) s).setA (s.a ^^^ s.mem.readWord r.ea.toNat)) := by
  rw [exec_era, execEra, withOperand_of_installed h.1 h.2, afterReads_a]

end

/-- Settles O28: the exact next state of each. -/
theorem addSubtractAndExclusiveOr : Obligations.AddSubtractAndExclusiveOr := by
  unfold Obligations.AddSubtractAndExclusiveOr
  exact ⟨fun m s r h => ⟨exec_add_of_operandAt h, exec_sub_of_operandAt h⟩, fun m s r h => exec_era_of_operandAt h⟩

/-! ### DAD and DSB (R133, R135) -/

section
variable {m : MemRef} {s : State} {r : Located}

theorem exec_dad_of_operandAt (hhsa : s.config.hasHsa = true) (h : OperandAt m s r)
    (hsecond : (secondAddress r.ea s).toNat < s.config.memWords) :
    exec (.dad m) s =
      .next (putDoubleSum (s31 (dpNum s.a s.b) +
          s31 (dpNum (s.mem.readWord r.ea.toNat) (s.mem.readWord (secondAddress r.ea s).toNat)))
        (afterReads (r.path ++ [r.ea, secondAddress r.ea s]) s)) := by
  rw [exec_dad, execDad, hhsa, needs_true, withDouble_of_installed h.1 h.2 hsecond, afterReads_a, afterReads_b]

theorem exec_dsb_of_operandAt (hhsa : s.config.hasHsa = true) (h : OperandAt m s r)
    (hsecond : (secondAddress r.ea s).toNat < s.config.memWords) :
    exec (.dsb m) s =
      .next (putDoubleSum (s31 (dpNum s.a s.b) -
          s31 (dpNum (s.mem.readWord r.ea.toNat) (s.mem.readWord (secondAddress r.ea s).toNat)))
        (afterReads (r.path ++ [r.ea, secondAddress r.ea s]) s)) := by
  rw [exec_dsb, execDsb, hhsa, needs_true, withDouble_of_installed h.1 h.2 hsecond, afterReads_a, afterReads_b]

end

theorem fits_31_of_no_overflow {n : Int} (h : overflow31 n = false) : Fits 31 n := by
  have hn := of_decide_eq_false h
  norm_num [Fits] at hn ⊢
  omega

/-- Settles O29: the 31-bit format of the exact result, and what its overflow status says. -/
theorem doubleAddAndSubtract : Obligations.DoubleAddAndSubtract := by
  unfold Obligations.DoubleAddAndSubtract
  intro m s r e hhsa h he hsecond i n hi
  rw [← secondAddress_eq] at he
  subst he
  have hexec : exec i s = .next (putDoubleSum n (afterReads (r.path ++ [r.ea, secondAddress r.ea s]) s)) := by
    rcases hi with ⟨rfl, rfl⟩ | ⟨rfl, rfl⟩
    · exact exec_dad_of_operandAt hhsa h hsecond
    · exact exec_dsb_of_operandAt hhsa h hsecond
  refine ⟨_, _, _, hexec, dpNum_dpHi_dpLo _, bit_one_dpLo _, decide_eq_true_iff, fun hc => ?_⟩
  rw [dpNum_dpHi_dpLo, toInt_u31_of_fits (fits_31_of_no_overflow hc)]

/-! ### MPY (R136, R137) -/

theorem exec_mpy_of_operandAt {m : MemRef} {s : State} {r : Located} (hhsa : s.config.hasHsa = true)
    (h : OperandAt m s r) :
    exec (.mpy m) s =
      .next (multiplied (s.mem.readWord r.ea.toNat) (afterReads (r.path ++ [r.ea]) s)) := by
  rw [exec_mpy, execMpy, hhsa, needs_true, withOperand_of_installed h.1 h.2]

/-- Every product of two words fits 31 bits but that of the two least numbers. -/
theorem fits_product {v w : Word} (h : ¬(v = 0x8000 ∧ w = 0x8000)) : Fits 31 (v.toInt * w.toInt) := by
  obtain ⟨hvlo, hvhi⟩ := word_bounds v
  obtain ⟨hwlo, hwhi⟩ := word_bounds w
  have hmin : ¬(v.toInt = -32768 ∧ w.toInt = -32768) := fun ⟨hv, hw⟩ =>
    h ⟨toInt_eq_iff.1 (hv.trans (by decide)), toInt_eq_iff.1 (hw.trans (by decide))⟩
  generalize v.toInt = x at *
  generalize w.toInt = y at *
  norm_num [Fits]
  constructor
  · nlinarith
  · rcases eq_or_lt_of_le hvlo with hx | hx
    · have hy : -32767 ≤ y := by omega
      subst hx; omega
    · nlinarith

/-- Settles O30: the exact product fits, and the one that does not is what the parameter says. -/
theorem multiplyIsExact : Obligations.MultiplyIsExact := by
  unfold Obligations.MultiplyIsExact
  intro m s r hhsa h
  have hexec := exec_mpy_of_operandAt hhsa h
  refine ⟨fun hmin => ⟨dpHi (u31 (s16 s.a * s16 (s.mem.readWord r.ea.toNat))),
      dpLo (u31 (s16 s.a * s16 (s.mem.readWord r.ea.toNat))), hexec.trans ?_, ?_, bit_one_dpLo _⟩,
    fun hmin => ⟨fun hp => ?_, fun a b c hp => ?_⟩⟩
  · rw [multiplied, afterReads_a, if_neg hmin]; rfl
  · rw [dpNum_dpHi_dpLo]; exact toInt_u31_of_fits (fits_product hmin)
  · have hleast := leastProduct_draws (s := afterReads (r.path ++ [r.ea]) s) (by rw [afterReads_config, hp])
    rw [multiplied, afterReads_a, if_pos hmin, hleast] at hexec
    exact ⟨_, _, _, _, hexec⟩
  · refine hexec.trans ?_
    rw [multiplied, afterReads_a, if_pos hmin, leastProduct_values (by rw [afterReads_config, hp]), afterReads_c]

/-! ### The roundings of DIV (R138, R139, U12) -/

/-- What each rounding promises of a remainder. -/
def RemainderSpec (f : DivRounding) (n d r : Int) : Prop :=
  |r| < |d| ∧ (f = .towardZero → r = 0 ∨ (r < 0 ↔ n < 0)) ∧ (f = .floor → r = 0 ∨ (r < 0 ↔ d < 0)) ∧
    (f = .euclidean → 0 ≤ r)

/-- Each remainder is the euclidean one or that less the divisor's magnitude. -/
theorem remainderSpec_roundedQuotient (f : DivRounding) (n : Int) {d : Int} (hd : d ≠ 0) :
    RemainderSpec f n d (n - roundedQuotient f n d * d) := by
  have hnonneg := Int.emod_nonneg n hd
  have hlt := Int.emod_lt_abs n hd
  have hdvd : d ∣ n → n % d = 0 := Int.emod_eq_zero_of_dvd
  rw [mul_comm]
  unfold RemainderSpec
  rw [Int.abs_eq_natAbs d] at hlt ⊢
  cases f
  · rw [roundedQuotient, ← Int.tmod_def, Int.tmod_eq_emod, Int.abs_eq_natAbs]
    split_ifs with h
    · simp only [IsEmpty.forall_iff, true_imp_iff, and_true, Nat.cast_zero, sub_zero]
      omega
    · simp only [IsEmpty.forall_iff, true_imp_iff, and_true]
      omega
  · rw [roundedQuotient, ← Int.fmod_def, Int.fmod_eq_emod, Int.abs_eq_natAbs]
    split_ifs with h
    · simp only [IsEmpty.forall_iff, true_imp_iff, and_true, true_and, add_zero]
      omega
    · simp only [IsEmpty.forall_iff, true_imp_iff, and_true, true_and]
      omega
  · rw [show n - d * roundedQuotient .euclidean n d = n % d from (Int.emod_def n d).symm, Int.abs_eq_natAbs]
    simp only [reduceCtorEq, IsEmpty.forall_iff, true_imp_iff, true_and]
    omega

theorem fits_remainder {f : DivRounding} {n d r : Int} (h : RemainderSpec f n d r) (hd : Fits 16 d) : Fits 16 r := by
  have hlt := h.1
  rw [Int.abs_eq_natAbs, Int.abs_eq_natAbs] at hlt
  norm_num [Fits] at hd ⊢
  omega

/-! ### DIV (R138, R139) -/

section
variable {v : Word} {s : State} {q r : Int}

theorem divided_proper (h : divOutcome s.config.divFn (dpNum s.a s.b) v = .proper q r) :
    divided v s = .next (putQuotient q r s) := by rw [divided, h]

theorem divided_improper (h : divOutcome s.config.divFn (dpNum s.a s.b) v = .improper) :
    divided v s = .next (improperDivide s) := by rw [divided, h]

/-- At the quotient -32768 the parameter decides, or a free constant does (R139). -/
theorem divided_atLimit (h : divOutcome s.config.divFn (dpNum s.a s.b) v = .atLimit q r) :
    (s.config.divFn.atLimit = .refuse → divided v s = .refused .divQuotientUndecided) ∧
      (s.config.divFn.atLimit = .proper → divided v s = .next (putQuotient q r s)) ∧
      (s.config.divFn.atLimit = .improper → divided v s = .next (improperDivide s)) ∧
      (s.config.divFn.atLimit = .undecided →
        divided v s = .next (putQuotient q r s) ∨ divided v s = .next (improperDivide s)) := by
  refine ⟨fun hl => ?_, fun hl => ?_, fun hl => ?_, fun hl => ?_⟩ <;> rw [divided, h] <;> dsimp only <;> rw [hl]
  cases Config.divMinImproper (dpNum s.a s.b) v
  · exact .inl rfl
  · exact .inr rfl

theorem quotientOutcome_proper (hlo : -32767 ≤ q) (hhi : q ≤ 32767) : quotientOutcome q r = .proper q r :=
  if_pos ⟨hlo, hhi⟩

theorem quotientOutcome_improper (h : q < -32768 ∨ 32767 < q) : quotientOutcome q r = .improper := by
  rw [quotientOutcome, if_neg (by omega), if_neg (by omega)]

theorem quotientOutcome_atLimit (h : q = -32768) : quotientOutcome q r = .atLimit q r := by
  rw [quotientOutcome, if_neg (by omega), if_pos h]

end

theorem exec_div_of_operandAt {m : MemRef} {s : State} {r : Located} (hhsa : s.config.hasHsa = true)
    (h : OperandAt m s r) :
    exec (.div m) s = divided (s.mem.readWord r.ea.toNat) (afterReads (r.path ++ [r.ea]) s) := by
  rw [exec_div, execDiv, hhsa, needs_true, withOperand_of_installed h.1 h.2]

/-- The quotient that the statements write out for each rounding. -/
theorem eq_roundedQuotient {f : DivRounding} {n d q : Int}
    (h : (f = .towardZero ∧ q = n.tdiv d) ∨ (f = .floor ∧ q = n.fdiv d) ∨ (f = .euclidean ∧ q = n.ediv d)) :
    q = roundedQuotient f n d := by
  rcases h with ⟨rfl, rfl⟩ | ⟨rfl, rfl⟩ | ⟨rfl, rfl⟩ <;> rfl

theorem word_ne_zero_of_toInt {v : Word} (h : v.toInt ≠ 0) : v ≠ 0 := fun hv => h (by rw [hv]; rfl)

/-- Settles O31: a proper quotient and its remainder fit a word, and the rounding says where the remainder lies. -/
theorem divideIsExactWhereProper : Obligations.DivideIsExactWhereProper := by
  unfold Obligations.DivideIsExactWhereProper
  intro m s r d hhsa h hd
  have hexec := exec_div_of_operandAt hhsa h
  have hreads : ∀ o, divOutcome s.config.divFn (dpNum s.a s.b) (s.mem.readWord r.ea.toNat) = o →
      divOutcome (afterReads (r.path ++ [r.ea]) s).config.divFn
        (dpNum (afterReads (r.path ++ [r.ea]) s).a (afterReads (r.path ++ [r.ea]) s).b)
        (s.mem.readWord r.ea.toNat) = o := by simp
  subst hd
  generalize hv : s.mem.readWord r.ea.toNat = v at *
  have himproper : divOutcome s.config.divFn (dpNum s.a s.b) v = .improper →
      ∃ (a b : Word) (n : Nat), exec (.div m) s =
        .next (((((afterReads (r.path ++ [r.ea]) s).setDraws n).setA a).setB b).setC true) := fun ho =>
    ⟨_, _, _, hexec.trans ((divided_improper (hreads _ ho)).trans (by rw [improperDivide_eq]))⟩
  refine ⟨fun hzero => himproper ?_, fun hzero hfind q hq => ?_,
    fun e hzero hfind => ⟨fun q rem he => ?_, fun he => ?_⟩⟩
  · obtain rfl : v = 0 := toInt_eq_iff.1 hzero
    exact divOutcome_zero _ _
  · have hround := divOutcome_rounded (word_ne_zero_of_toInt hzero) hfind
    have hspec := remainderSpec_roundedQuotient s.config.divFn.rounding (dpNum s.a s.b).toInt hzero
    have hfits := fits_remainder hspec (fits_toInt v)
    rw [s31, s16, ← eq_roundedQuotient hq] at hround
    rw [← eq_roundedQuotient hq] at hspec hfits
    refine ⟨fun hlo hhi => ?_, fun hout => himproper (hround.trans (quotientOutcome_improper hout))⟩
    obtain ⟨hmag, htoward, hfloor, heuclid⟩ := hspec
    refine ⟨_, _, hexec.trans (divided_proper (hreads _ (hround.trans (quotientOutcome_proper hlo hhi)))),
      toInt_u16_of_fits (by norm_num [Fits]; omega), ?_⟩
    rw [toInt_u16_of_fits hfits]
    exact ⟨by omega, hmag, htoward, hfloor, heuclid⟩
  · have ho := divOutcome_exception (word_ne_zero_of_toInt hzero) hfind
    rw [he] at ho
    exact hexec.trans (divided_proper (hreads _ ho))
  · have ho := divOutcome_exception (word_ne_zero_of_toInt hzero) hfind
    rw [he] at ho
    exact himproper ho

/-- Settles O32: the quotient -32768 goes by the parameter's value for it. -/
theorem divideAtTheLimit : Obligations.DivideAtTheLimit := by
  unfold Obligations.DivideAtTheLimit
  intro m s r d q hhsa h hd hzero hfind hq hlimit
  subst hd
  have hround := divOutcome_rounded (word_ne_zero_of_toInt hzero) hfind
  rw [s31, s16, ← eq_roundedQuotient hq, quotientOutcome_atLimit hlimit, hlimit] at hround
  have hremainder : (dpNum s.a s.b).toInt - -32768 * (s.mem.readWord r.ea.toNat).toInt =
      (dpNum s.a s.b).toInt + 32768 * (s.mem.readWord r.ea.toNat).toInt := by ring
  rw [hremainder] at hround
  obtain ⟨hrefuse, hproper, himproper, hundecided⟩ :=
    divided_atLimit (s := afterReads (r.path ++ [r.ea]) s) (by simpa using hround)
  rw [afterReads_config, ← exec_div_of_operandAt hhsa h] at hrefuse hproper himproper hundecided
  rw [improperDivide_eq] at himproper hundecided
  exact ⟨hrefuse, hproper, fun hl => ⟨_, _, _, himproper hl⟩,
    fun hl => (hundecided hl).imp_right fun hi => ⟨_, _, _, hi⟩⟩

/-! ### ACA and AOA (R140, R141), the signs and CMA (R152, R154 to R156) -/

theorem exec_aca (s : State) : exec .aca s = execAca s := rfl
theorem exec_aoa (s : State) : exec .aoa s = execAoa s := rfl
theorem exec_ssm (s : State) : exec .ssm s = execSsm s := rfl
theorem exec_ssp (s : State) : exec .ssp s = execSsp s := rfl
theorem exec_chs (s : State) : exec .chs s = execChs s := rfl
theorem exec_cma (s : State) : exec .cma s = execCma s := rfl

/-- One more than a word overflows at the greatest number alone. -/
theorem overflow16_succ (w : Word) : overflow16 (s16 w + 1) = decide (w = 0x7FFF) := by
  obtain ⟨hlo, hhi⟩ := word_bounds w
  refine decide_eq_decide.2 ⟨fun h => toInt_eq_iff.1 ?_, fun h => ?_⟩
  · have hmax : w.toInt = 32767 := by unfold s16 at h; omega
    rw [hmax]; rfl
  · subst h; decide

theorem overflow16_word (w : Word) : overflow16 (s16 w) = false := by
  obtain ⟨hlo, hhi⟩ := word_bounds w
  exact decide_eq_false (by unfold s16; omega)

theorem putSum_succ (w : Word) (s : State) :
    putSum (s16 w + 1) s = (s.setA (w + 1)).setC (decide (w = 0x7FFF)) := by
  rw [putSum, overflow16_succ, show (1 : Int) = s16 1 from rfl, u16_s16_add]

theorem exec_aca_eq (s : State) :
    exec .aca s = .next ((s.setA (s.a + (if s.c then 1 else 0))).setC (s.c && decide (s.a = 0x7FFF))) := by
  rw [exec_aca, execAca]
  cases s.c
  · have hsame : u16 (s16 s.a) = s.a := BitVec.ofInt_toInt
    simp [putSum, hsame, overflow16_word]
  · rw [if_pos rfl, putSum_succ]
    rfl

/-- A word is its sign and the rest, and setting or complementing the sign leaves the rest. -/
theorem or_8000_eq_append (w : Word) : w ||| 0x8000 = (1 : BitVec 1) ++ w.extractLsb' 0 15 := by
  refine BitVec.eq_of_getLsbD_eq fun k hk => ?_
  simp only [BitVec.getLsbD_or, BitVec.getLsbD_append, BitVec.getLsbD_extractLsb']
  interval_cases k <;> simp

theorem xor_8000_eq_append (w : Word) : w ^^^ 0x8000 = BitVec.ofBool (!bit w 1) ++ w.extractLsb' 0 15 := by
  refine BitVec.eq_of_getLsbD_eq fun k hk => ?_
  simp only [BitVec.getLsbD_xor, BitVec.getLsbD_append, BitVec.getLsbD_extractLsb', bit]
  interval_cases k <;> simp

theorem not_eq_ofNat (w : Word) : ~~~w = BitVec.ofNat 16 (65535 - w.toNat) := by
  apply BitVec.eq_of_toNat_eq
  rw [BitVec.toNat_not, BitVec.toNat_ofNat, Nat.mod_eq_of_lt (by omega)]

/-- Settles O33: the exact next state of each. -/
theorem incrementsSignsAndComplement : Obligations.IncrementsSignsAndComplement := by
  unfold Obligations.IncrementsSignsAndComplement
  refine ⟨fun s => ⟨exec_aca_eq s, ?_⟩, fun s => ⟨?_, ?_, ?_, ?_⟩⟩
  · rw [exec_aoa, execAoa, putSum_succ]
  · rw [exec_ssm, execSsm, or_8000_eq_append]
  · rw [exec_ssp, execSsp, and_7FFF_eq_append]
  · rw [exec_chs, execChs, xor_8000_eq_append]
  · rw [exec_cma, execCma, not_eq_ofNat]

end Sys2Proof.Machine
end

section
/-! The load and store instructions of 40_load_store.md that are left, CAL and CAR, and where a memory-reference
instruction stops. -/

namespace Sys2Proof.Machine

/-! ### LDX, STX and IMA (R105, R106, R110) -/

section
variable {m : MemRef} {x : XRef} {s : State} {r : Located}

/-- A store to installed memory after reads stores into the memory of before (R56). -/
theorem memWrite_afterReads {a : Word} (hrm : s.rmBit = false) (ha : a.toNat < s.config.memWords) (v : Word)
    (l : List Word) :
    memWrite a v (afterReads l s) = .next ((afterReads l s).setMem (s.mem.writeWord a.toNat v)) := by
  rw [memWrite_of_installed (by rwa [afterReads_rmBit]) (by rwa [afterReads_config]), afterReads_mem]

theorem exec_ldx_of_operandAt (hopt : s.config.hasIndexLdxStx = true) (h : XOperandAt x s r) (hrm : s.rmBit = false) :
    exec (.ldx x) s =
      .next ((afterReads (r.path ++ [r.ea]) s).setMem (s.mem.writeWord 0 (s.mem.readWord r.ea.toNat))) := by
  have hzero : (0 : Word).toNat < s.config.memWords := lt_of_le_of_lt (Nat.zero_le _) h.2
  rw [exec_ldx, execLdx, hopt, needs_true, withOperand_of_installed h.1 h.2, memWrite_afterReads hrm hzero]
  rfl

theorem exec_stx_of_operandAt (hopt : s.config.hasIndexLdxStx = true) (h : XOperandAt x s r) (hrm : s.rmBit = false) :
    exec (.stx x) s = .next ((afterReads r.path s).setMem (s.mem.writeWord r.ea.toNat s.x)) := by
  rw [exec_stx, execStx, hopt, needs_true, withAddress_of_next h.1, memWrite_afterReads hrm h.2, afterReads_x]

theorem exec_ima_of_operandAt (h : OperandAt m s r) (hrm : s.rmBit = false) :
    exec (.ima m) s =
      .next (((afterReads (r.path ++ [r.ea]) s).setMem (s.mem.writeWord r.ea.toNat s.a)).setA
        (s.mem.readWord r.ea.toNat)) := by
  rw [exec_ima, execIma, withOperand_of_installed h.1 h.2, memWrite_afterReads hrm h.2, andThen_next, afterReads_a]

end

/-- Settles O22: the exact next states, and the bytes that a store of one word leaves alone. -/
theorem indexMovesAndInterchange : Obligations.IndexMovesAndInterchange := by
  unfold Obligations.IndexMovesAndInterchange
  refine ⟨fun x s => ⟨fun hopt => ⟨?_, ?_⟩, fun r hopt h hrm => ⟨exec_ldx_of_operandAt hopt h hrm,
    exec_stx_of_operandAt hopt h hrm, sameBytesOutside_writeWord _ _ _, sameBytesOutside_writeWord _ _ _⟩⟩,
    fun m s r h hrm => ⟨exec_ima_of_operandAt h hrm, sameBytesOutside_writeWord _ _ _⟩⟩
  · rw [exec_ldx, execLdx, hopt, needs_false]
  · rw [exec_stx, execStx, hopt, needs_false]

/-! ### DLD and DST (R102, R104) -/

section
variable {m : MemRef} {s : State} {r : Located}

theorem exec_dld_of_operandAt (hhsa : s.config.hasHsa = true) (h : OperandAt m s r)
    (hsecond : (secondAddress r.ea s).toNat < s.config.memWords) :
    exec (.dld m) s =
      .next (((afterReads (r.path ++ [r.ea, secondAddress r.ea s]) s).setA (s.mem.readWord r.ea.toNat)).setB
        (s.mem.readWord (secondAddress r.ea s).toNat)) := by
  rw [exec_dld, execDld, hhsa, needs_true, withDouble_of_installed h.1 h.2 hsecond]

/-- DST up to its second store. -/
theorem exec_dst_of_first (hhsa : s.config.hasHsa = true) (h : OperandAt m s r) (hrm : s.rmBit = false) :
    exec (.dst m) s =
      memWrite (secondAddress r.ea s) s.b ((afterReads r.path s).setMem (s.mem.writeWord r.ea.toNat s.a)) := by
  rw [exec_dst, execDst, hhsa, needs_true, withAddress_of_next h.1, memWrite_afterReads hrm h.2, andThen_next,
    afterReads_a, State.setMem_b, afterReads_b]

theorem exec_dst_of_operandAt (hhsa : s.config.hasHsa = true) (h : OperandAt m s r)
    (hsecond : (secondAddress r.ea s).toNat < s.config.memWords) (hrm : s.rmBit = false) :
    exec (.dst m) s =
      .next ((afterReads r.path s).setMem
        ((s.mem.writeWord r.ea.toNat s.a).writeWord (secondAddress r.ea s).toNat s.b)) := by
  rw [exec_dst_of_first hhsa h hrm, memWrite_of_installed (by simpa using hrm) (by simpa using hsecond)]
  rfl

end

/-- Settles O23: the exact next states, and the bytes that two stores leave alone. -/
theorem doubleLoadAndStore : Obligations.DoubleLoadAndStore := by
  unfold Obligations.DoubleLoadAndStore
  intro m s r e hhsa h he hsecond
  rw [← secondAddress_eq] at he
  subst he
  refine ⟨exec_dld_of_operandAt hhsa h hsecond, exec_dst_of_operandAt hhsa h hsecond, fun k h1 h2 h3 h4 => ?_⟩
  rw [sameBytesOutside_writeWord _ _ _ k h3 h4, sameBytesOutside_writeWord _ _ _ k h1 h2]

/-! ### CRA, IAB, CAL and CAR (R100, R107, R120, R121) -/

theorem exec_cra (s : State) : exec .cra s = execCra s := rfl
theorem exec_iab (s : State) : exec .iab s = execIab s := rfl
theorem exec_cal (s : State) : exec .cal s = execCal s := rfl
theorem exec_car (s : State) : exec .car s = execCar s := rfl

theorem and_00FF_eq_append (w : Word) : w &&& 0x00FF = (0 : BitVec 8) ++ w.extractLsb' 0 8 := by
  refine BitVec.eq_of_getLsbD_eq fun k hk => ?_
  simp only [BitVec.getLsbD_and, BitVec.getLsbD_append, BitVec.getLsbD_extractLsb']
  interval_cases k <;> simp

theorem and_FF00_eq_append (w : Word) : w &&& 0xFF00 = w.extractLsb' 8 8 ++ (0 : BitVec 8) := by
  refine BitVec.eq_of_getLsbD_eq fun k hk => ?_
  simp only [BitVec.getLsbD_and, BitVec.getLsbD_append, BitVec.getLsbD_extractLsb']
  interval_cases k <;> simp

/-- Settles O24: the exact next states, the masks read as halves of the word. -/
theorem clearsAndInterchange : Obligations.ClearsAndInterchange := by
  unfold Obligations.ClearsAndInterchange
  refine ⟨⟨rfl, exec_cra⟩, exec_iab, fun s => ⟨?_, ?_⟩⟩
  · rw [exec_cal, execCal, and_00FF_eq_append]
  · rw [exec_car, execCar, and_FF00_eq_append]

/-! ### Where an access stops (R54, R56, R59) -/

section
variable {place : Result Located} {r : Located} {f : Fault}

theorem withAddress_fault (h : place = .fault f) (s : State) (k : Word → State → Result State) :
    withAddress place s k = .fault f := by rw [withAddress, h, andThen_fault]

theorem withOperand_fault (h : place = .fault f) (s : State) (k : Word → Word → State → Result State) :
    withOperand place s k = .fault f := by rw [withOperand, h, andThen_fault]

theorem withDouble_fault (h : place = .fault f) (s : State) (k : Word → Word → State → Result State) :
    withDouble place s k = .fault f := by rw [withDouble, h, andThen_fault]

theorem withOperand_no_memory (h : place = .next r) {s : State} (hr : ¬r.ea.toNat < s.config.memWords)
    (k : Word → Word → State → Result State) : withOperand place s k = .fault (.noMemory r.ea) := by
  rw [withOperand, h, andThen_next, wordAt_of_not_lt hr, andThen_fault]

theorem withDouble_no_memory (h : place = .next r) {s : State} (hr : ¬r.ea.toNat < s.config.memWords)
    (k : Word → Word → State → Result State) : withDouble place s k = .fault (.noMemory r.ea) := by
  rw [withDouble, h, andThen_next, wordAt_of_not_lt hr, andThen_fault]

theorem withDouble_no_second (h : place = .next r) {s : State} (hfirst : r.ea.toNat < s.config.memWords)
    (hr : ¬(secondAddress r.ea s).toNat < s.config.memWords) (k : Word → Word → State → Result State) :
    withDouble place s k = .fault (.noMemory (secondAddress r.ea s)) := by
  rw [withDouble, h, andThen_next, wordAt_of_lt hfirst, andThen_next, wordAt_of_not_lt hr, andThen_fault]

theorem memWrite_no_memory {a v : Word} {s : State} (hrm : s.rmBit = false) (ha : ¬a.toNat < s.config.memWords) :
    memWrite a v s = .fault (.noMemory a) := by
  rw [memWrite, if_neg (by simp [hrm]), if_neg ha]

theorem memWrite_restricted {s : State} (hrm : s.rmBit = true) (a v : Word) :
    memWrite a v s = .refused .restrictedModeUnmodelled := if_pos hrm

end

/-! ### Where each memory-reference instruction stops -/

section
variable {m : MemRef} {s : State} {r : Located}

theorem hsaForms_absent (h : s.config.hasHsa = false) :
    ∀ i ∈ [Instr.dld m, .dst m, .dad m, .dsb m, .mpy m, .div m],
      exec i s = .refused (.optionAbsent .highSpeedArithmetic) := by
  simp only [List.forall_mem_cons, exec_dld, execDld, exec_dst, execDst, exec_dad, execDad, exec_dsb, execDsb, exec_mpy,
    execMpy, exec_div, execDiv, h, needs_false, List.not_mem_nil, false_imp_iff, implies_true, and_true]

theorem memoryForms_fault {f : Fault} (h : locateMem m s = .fault f) :
    ∀ i ∈ [Instr.jmp m, .lda m, .ana m, .sta m, .era m, .add m, .sub m, .jst m, .cas m, .irs m, .ima m],
      exec i s = .fault f := by
  simp only [List.forall_mem_cons, exec_jmp, execJmp, jumpTo, exec_lda, execLda, exec_ana, execAna, exec_sta, execSta,
    exec_era, execEra, exec_add, execAdd, exec_sub, execSub, exec_jst, execJst, jumpAndStore, exec_cas, execCas,
    exec_irs, execIrs, exec_ima, execIma, withAddress_fault h, withOperand_fault h, List.not_mem_nil, false_imp_iff,
    implies_true, and_true]

theorem hsaForms_fault {f : Fault} (hhsa : s.config.hasHsa = true) (h : locateMem m s = .fault f) :
    ∀ i ∈ [Instr.dld m, .dst m, .dad m, .dsb m, .mpy m, .div m], exec i s = .fault f := by
  simp only [List.forall_mem_cons, exec_dld, execDld, exec_dst, execDst, exec_dad, execDad, exec_dsb, execDsb, exec_mpy,
    execMpy, exec_div, execDiv, hhsa, needs_true, withAddress_fault h, withOperand_fault h, withDouble_fault h,
    List.not_mem_nil, false_imp_iff, implies_true, and_true]

theorem memoryForms_no_memory (h : locateMem m s = .next r) (hr : ¬r.ea.toNat < s.config.memWords) :
    ∀ i ∈ [Instr.lda m, .ana m, .era m, .add m, .sub m, .jst m, .cas m, .irs m, .ima m],
      exec i s = .fault (.noMemory r.ea) := by
  simp only [List.forall_mem_cons, exec_lda, execLda, exec_ana, execAna, exec_era, execEra, exec_add, execAdd, exec_sub,
    execSub, exec_jst, execJst, jumpAndStore, exec_cas, execCas, exec_irs, execIrs, exec_ima, execIma,
    withOperand_no_memory h hr, List.not_mem_nil, false_imp_iff, implies_true, and_true]

theorem hsaForms_no_memory (hhsa : s.config.hasHsa = true) (h : locateMem m s = .next r)
    (hr : ¬r.ea.toNat < s.config.memWords) :
    ∀ i ∈ [Instr.dld m, .dad m, .dsb m, .mpy m, .div m], exec i s = .fault (.noMemory r.ea) := by
  simp only [List.forall_mem_cons, exec_dld, execDld, exec_dad, execDad, exec_dsb, execDsb, exec_mpy, execMpy, exec_div,
    execDiv, hhsa, needs_true, withOperand_no_memory h hr, withDouble_no_memory h hr, List.not_mem_nil, false_imp_iff,
    implies_true, and_true]

theorem hsaForms_no_second (hhsa : s.config.hasHsa = true) (h : OperandAt m s r)
    (hr : ¬(secondAddress r.ea s).toNat < s.config.memWords) :
    ∀ i ∈ [Instr.dld m, .dad m, .dsb m], exec i s = .fault (.noMemory (secondAddress r.ea s)) := by
  simp only [List.forall_mem_cons, exec_dld, execDld, exec_dad, execDad, exec_dsb, execDsb, hhsa, needs_true,
    withDouble_no_second h.1 h.2 hr, List.not_mem_nil, false_imp_iff, implies_true, and_true]

theorem exec_sta_no_memory (h : locateMem m s = .next r) (hrm : s.rmBit = false)
    (hr : ¬r.ea.toNat < s.config.memWords) : exec (.sta m) s = .fault (.noMemory r.ea) := by
  rw [exec_sta, execSta, withAddress_of_next h, memWrite_no_memory (by simpa using hrm) (by simpa using hr)]

theorem exec_dst_no_memory (hhsa : s.config.hasHsa = true) (h : locateMem m s = .next r) (hrm : s.rmBit = false)
    (hr : ¬r.ea.toNat < s.config.memWords) : exec (.dst m) s = .fault (.noMemory r.ea) := by
  rw [exec_dst, execDst, hhsa, needs_true, withAddress_of_next h,
    memWrite_no_memory (by simpa using hrm) (by simpa using hr), andThen_fault]

theorem exec_dst_no_second (hhsa : s.config.hasHsa = true) (h : OperandAt m s r) (hrm : s.rmBit = false)
    (hr : ¬(secondAddress r.ea s).toNat < s.config.memWords) :
    exec (.dst m) s = .fault (.noMemory (secondAddress r.ea s)) := by
  rw [exec_dst_of_first hhsa h hrm, memWrite_no_memory (by simpa using hrm) (by simpa using hr)]

theorem exec_sta_restricted (h : locateMem m s = .next r) (hrm : s.rmBit = true) :
    exec (.sta m) s = .refused .restrictedModeUnmodelled := by
  rw [exec_sta, execSta, withAddress_of_next h, memWrite_restricted (by simpa using hrm)]

theorem exec_dst_restricted (hhsa : s.config.hasHsa = true) (h : locateMem m s = .next r) (hrm : s.rmBit = true) :
    exec (.dst m) s = .refused .restrictedModeUnmodelled := by
  rw [exec_dst, execDst, hhsa, needs_true, withAddress_of_next h, memWrite_restricted (by simpa using hrm),
    andThen_refused]

theorem storeForms_restricted (h : OperandAt m s r) (hrm : s.rmBit = true) :
    ∀ i ∈ [Instr.jst m, .irs m, .ima m], exec i s = .refused .restrictedModeUnmodelled := by
  have hstore : ∀ (l : List Word) (a v : Word),
      memWrite a v (afterReads l s) = .refused .restrictedModeUnmodelled := fun l a v =>
    memWrite_restricted (by rwa [afterReads_rmBit]) a v
  simp only [List.forall_mem_cons, exec_jst, execJst, jumpAndStore, exec_irs, execIrs, exec_ima, execIma,
    withOperand_of_installed h.1 h.2, hstore, andThen_refused, List.not_mem_nil, false_imp_iff, implies_true, and_true]

end

section
variable {x : XRef} {s : State} {r : Located}

theorem xForms_fault {f : Fault} (hopt : s.config.hasIndexLdxStx = true) (h : locateX x s = .fault f) :
    exec (.ldx x) s = .fault f ∧ exec (.stx x) s = .fault f := by
  rw [exec_ldx, execLdx, exec_stx, execStx, hopt, needs_true, needs_true, withOperand_fault h, withAddress_fault h]
  exact ⟨rfl, rfl⟩

theorem exec_ldx_no_memory (hopt : s.config.hasIndexLdxStx = true) (h : locateX x s = .next r)
    (hr : ¬r.ea.toNat < s.config.memWords) : exec (.ldx x) s = .fault (.noMemory r.ea) := by
  rw [exec_ldx, execLdx, hopt, needs_true, withOperand_no_memory h hr]

theorem exec_stx_no_memory (hopt : s.config.hasIndexLdxStx = true) (h : locateX x s = .next r) (hrm : s.rmBit = false)
    (hr : ¬r.ea.toNat < s.config.memWords) : exec (.stx x) s = .fault (.noMemory r.ea) := by
  rw [exec_stx, execStx, hopt, needs_true, withAddress_of_next h,
    memWrite_no_memory (by simpa using hrm) (by simpa using hr)]

theorem exec_stx_restricted (hopt : s.config.hasIndexLdxStx = true) (h : locateX x s = .next r) (hrm : s.rmBit = true) :
    exec (.stx x) s = .refused .restrictedModeUnmodelled := by
  rw [exec_stx, execStx, hopt, needs_true, withAddress_of_next h, memWrite_restricted (by simpa using hrm)]

theorem exec_ldx_restricted (hopt : s.config.hasIndexLdxStx = true) (h : XOperandAt x s r) (hrm : s.rmBit = true) :
    exec (.ldx x) s = .refused .restrictedModeUnmodelled := by
  rw [exec_ldx, execLdx, hopt, needs_true, withOperand_of_installed h.1 h.2, memWrite_restricted (by simpa using hrm)]

end

/-- Settles O26: each way to stop, over the instructions it stops. -/
theorem stopsOfTheMemoryInstructions : Obligations.StopsOfTheMemoryInstructions := by
  unfold Obligations.StopsOfTheMemoryInstructions
  refine ⟨fun m s => ⟨hsaForms_absent, fun f h => ⟨memoryForms_fault h, fun hhsa => hsaForms_fault hhsa h⟩,
      fun r h hr => ⟨memoryForms_no_memory h hr, fun hhsa => hsaForms_no_memory hhsa h hr, fun hrm =>
        ⟨exec_sta_no_memory h hrm hr, fun hhsa => exec_dst_no_memory hhsa h hrm hr⟩⟩,
      fun r e hhsa h he hr => ?_,
      fun r hrm h => ⟨exec_sta_restricted h hrm, fun hhsa => exec_dst_restricted hhsa h hrm, fun hmem =>
        storeForms_restricted ⟨h, hmem⟩ hrm⟩⟩,
    fun x s hopt => ⟨fun f => xForms_fault hopt, fun r h =>
      ⟨fun hr => ⟨exec_ldx_no_memory hopt h hr, fun hrm => exec_stx_no_memory hopt h hrm hr⟩, fun hrm =>
        ⟨exec_stx_restricted hopt h hrm, fun hmem => exec_ldx_restricted hopt ⟨h, hmem⟩ hrm⟩⟩⟩⟩
  rw [← secondAddress_eq] at he
  subst he
  exact ⟨hsaForms_no_second hhsa h hr, fun hrm => exec_dst_no_second hhsa h hrm hr⟩

end Sys2Proof.Machine
end

section
/-! Transfers of control, skips, indicators (45_control.md) and input and output (46_input_output.md). -/

namespace Sys2Proof.Machine

/-! ### JST, IRS and CAS (R180, R182, R184) -/

section
variable {m : MemRef} {s : State} {r : Located}

theorem exec_jst_of_operandAt (h : OperandAt m s r) (hrm : s.rmBit = false) :
    exec (.jst m) s =
      .next (((afterReads (r.path ++ [r.ea]) s).setMem
        (s.mem.writeWord r.ea.toNat (linkWord s.pmiBit (s.mem.readWord r.ea.toNat) s.p))).setP
          (wrapAddr s.aw (r.ea.toNat + 1))) := by
  rw [exec_jst, execJst]
  exact jumpAndStore_eq_next.2 ⟨r, h.1, h.2, hrm, rfl⟩

theorem exec_irs_of_operandAt (h : OperandAt m s r) (hrm : s.rmBit = false) :
    exec (.irs m) s =
      .next (((afterReads (r.path ++ [r.ea]) s).setMem
        (s.mem.writeWord r.ea.toNat (s.mem.readWord r.ea.toNat + 1))).setP
          (if s.mem.readWord r.ea.toNat + 1 = 0 then wrapAddr s.aw (s.p.toNat + 1) else s.p)) := by
  rw [exec_irs, execIrs, withOperand_of_installed h.1 h.2, memWrite_afterReads hrm h.2, andThen_next, skipIf_eq]
  simp [State.aw]

/-- The number of words CAS skips (R180). -/
def casSkips (a v : Word) : Nat := if a.toInt > v.toInt then 0 else if a.toInt = v.toInt then 1 else 2

theorem exec_cas_of_operandAt (h : OperandAt m s r) :
    exec (.cas m) s =
      .next (if casSkips s.a (s.mem.readWord r.ea.toNat) = 0 then afterReads (r.path ++ [r.ea]) s
        else skip (casSkips s.a (s.mem.readWord r.ea.toNat)) (afterReads (r.path ++ [r.ea]) s)) := by
  rw [exec_cas, execCas, withOperand_of_installed h.1 h.2, afterReads_a, casSkips, s16, s16]
  split_ifs <;> trivial

end

/-- Adding 1 to a word adds 1 to its number modulo 65536. -/
theorem add_one_eq_ofNat (v : Word) : v + 1 = BitVec.ofNat 16 ((v.toNat + 1) % 65536) := by
  apply BitVec.eq_of_toNat_eq
  simp

/-- Settles O45: the exact next states, and the bytes that a store of one word leaves alone. -/
theorem jstAndIrs : Obligations.JstAndIrs := by
  unfold Obligations.JstAndIrs
  refine ⟨fun m s r w h hrm hw => ⟨?_, sameBytesOutside_writeWord _ _ _⟩,
    fun m s r v h hrm hv => ⟨?_, sameBytesOutside_writeWord _ _ _⟩⟩
  · rw [exec_jst_of_operandAt h hrm, hw]
    rfl
  · rw [exec_irs_of_operandAt h hrm, hv, ← add_one_eq_ofNat]
    rfl

/-- Settles O47: the three cases of the comparison are the three numbers of words skipped. -/
theorem casSkipsByComparison : Obligations.CasSkipsByComparison := by
  unfold Obligations.CasSkipsByComparison
  intro m s r k h hk
  subst hk
  rw [exec_cas_of_operandAt h, skip, afterReads_aw, afterReads_p]
  rfl

/-! ### The dispatch of the skips (R185 to R206) -/

theorem exec_skp (s : State) : exec .skp s = execSkp s := rfl
theorem exec_spl (s : State) : exec .spl s = execSpl s := rfl
theorem exec_smi (s : State) : exec .smi s = execSmi s := rfl
theorem exec_sze (s : State) : exec .sze s = execSze s := rfl
theorem exec_snz (s : State) : exec .snz s = execSnz s := rfl
theorem exec_slz (s : State) : exec .slz s = execSlz s := rfl
theorem exec_sln (s : State) : exec .sln s = execSln s := rfl
theorem exec_src (s : State) : exec .src s = execSrc s := rfl
theorem exec_ssc (s : State) : exec .ssc s = execSsc s := rfl
theorem exec_sr1 (s : State) : exec .sr1 s = execSr1 s := rfl
theorem exec_sr2 (s : State) : exec .sr2 s = execSr2 s := rfl
theorem exec_sr3 (s : State) : exec .sr3 s = execSr3 s := rfl
theorem exec_sr4 (s : State) : exec .sr4 s = execSr4 s := rfl
theorem exec_ssr (s : State) : exec .ssr s = execSsr s := rfl
theorem exec_ss1 (s : State) : exec .ss1 s = execSs1 s := rfl
theorem exec_ss2 (s : State) : exec .ss2 s = execSs2 s := rfl
theorem exec_ss3 (s : State) : exec .ss3 s = execSs3 s := rfl
theorem exec_ss4 (s : State) : exec .ss4 s = execSs4 s := rfl
theorem exec_sss (s : State) : exec .sss s = execSss s := rfl
theorem exec_spn (s : State) : exec .spn s = execSpn s := rfl
theorem exec_sps (s : State) : exec .sps s = execSps s := rfl
theorem exec_rmp (s : State) : exec .rmp s = execRmp s := rfl

/-! ### The skips on A and C, on the switches and on MPE -/

/-- A conditional skip, with its condition read as a proposition. -/
theorem skipIf_of_iff {c : Bool} {p : Prop} [Decidable p] {s q : State}
    (hq : q = s.setP (wrapAddr s.aw (s.p.toNat + 1))) (hc : c = true ↔ p) : skipIf c s = if p then q else s := by
  subst hq
  exact if_congr hc rfl rfl

/-- Settles O48: each is a conditional skip, and its condition is the one of the spec. -/
theorem skipsOnAAndC : Obligations.SkipsOnAAndC := by
  unfold Obligations.SkipsOnAAndC
  refine ⟨rfl, rfl, rfl, rfl, rfl, rfl, rfl, rfl, rfl, fun s q hq => ?_⟩
  rw [exec_skp, exec_spl, exec_smi, exec_sze, exec_snz, exec_slz, exec_sln, exec_src, exec_ssc]
  refine ⟨congrArg _ hq.symm, congrArg _ (skipIf_of_iff hq ?_), congrArg _ (skipIf_of_iff hq Iff.rfl),
    congrArg _ (skipIf_of_iff hq beq_iff_eq), congrArg _ (skipIf_of_iff hq bne_iff_ne),
    congrArg _ (skipIf_of_iff hq ?_), congrArg _ (skipIf_of_iff hq Iff.rfl),
    congrArg _ (skipIf_of_iff hq ?_), congrArg _ (skipIf_of_iff hq Iff.rfl)⟩
  all_goals exact (Bool.not_eq_true' _).to_iff

/-- A skip on the switches, by what one reading of them gives. -/
theorem skipOnSwitches_of_iff {cond : SenseSwitches → Bool} {p : Prop} [Decidable p] {s u q : State}
    {w : SenseSwitches} (hask : askSwitches s = (w, u)) (hq : q = u.setP (wrapAddr u.aw (u.p.toNat + 1)))
    (hc : cond w = true ↔ p) : skipOnSwitches cond s = if p then q else u := by
  rw [skipOnSwitches, hask]
  exact skipIf_of_iff hq hc

/-- Settles O49: each is a skip on one reading of the switches, and its condition is the one of the spec. -/
theorem skipsOnTheSenseSwitches : Obligations.SkipsOnTheSenseSwitches := by
  unfold Obligations.SkipsOnTheSenseSwitches
  intro s u q w hask hq
  obtain ⟨n, hn⟩ := askSwitches_frame s
  rw [hask] at hn
  have hskip : q = u.setP (wrapAddr u.aw (u.p.toNat + 1)) := by
    rw [hq, show u = s.setDraws n from hn]; rfl
  refine ⟨⟨n, hn⟩, fun hfixed => ?_, ?_⟩
  · rw [askSwitches, if_pos hfixed] at hask
    cases hask
    exact ⟨rfl, rfl⟩
  · rw [exec_sr1, exec_sr2, exec_sr3, exec_sr4, exec_ss1, exec_ss2, exec_ss3, exec_ss4, exec_ssr, exec_sss]
    have hoff (b : Bool) : (!b) = true ↔ b = false := (Bool.not_eq_true' b).to_iff
    refine ⟨congrArg _ (skipOnSwitches_of_iff hask hskip (hoff _)),
      congrArg _ (skipOnSwitches_of_iff hask hskip (hoff _)),
      congrArg _ (skipOnSwitches_of_iff hask hskip (hoff _)),
      congrArg _ (skipOnSwitches_of_iff hask hskip (hoff _)),
      congrArg _ (skipOnSwitches_of_iff hask hskip Iff.rfl), congrArg _ (skipOnSwitches_of_iff hask hskip Iff.rfl),
      congrArg _ (skipOnSwitches_of_iff hask hskip Iff.rfl), congrArg _ (skipOnSwitches_of_iff hask hskip Iff.rfl),
      congrArg _ (skipOnSwitches_of_iff hask hskip ?_), congrArg _ (skipOnSwitches_of_iff hask hskip ?_)⟩
    · simp only [Bool.and_eq_true, hoff, and_assoc]
    · simp only [Bool.or_eq_true, or_assoc]

/-! ### The indicators (R220 to R234) -/

theorem parityForms_absent {s : State} (h : s.config.hasMemoryParity = false) :
    ∀ i ∈ [Instr.spn, .sps, .rmp], exec i s = .refused (.optionAbsent .memoryParity) := by
  simp only [List.forall_mem_cons, exec_spn, execSpn, exec_sps, execSps, exec_rmp, execRmp, h, needs_false,
    List.not_mem_nil, false_imp_iff, implies_true, and_true]

/-- Settles O50: with and without the option of each. -/
theorem parityAndAddressingModeInstructions : Obligations.ParityAndAddressingModeInstructions := by
  unfold Obligations.ParityAndAddressingModeInstructions
  refine ⟨fun s q hq => ⟨fun hopt => ?_, parityForms_absent⟩, fun s => ⟨fun hopt => ?_, fun hopt => ?_⟩⟩
  · have hmpe : s.mpeBit = s.mpe := by rw [State.mpeBit, hopt, Bool.true_and]
    rw [exec_spn, execSpn, exec_sps, execSps, exec_rmp, execRmp, hopt, needs_true, needs_true, needs_true, hmpe]
    exact ⟨congrArg _ (skipIf_of_iff hq (Bool.not_eq_true' _).to_iff), congrArg _ (skipIf_of_iff hq Iff.rfl), rfl⟩
  · rw [exec_exa, execExa, exec_dxa, execDxa, hopt, needs_true, needs_true]
    exact ⟨rfl, fun hlow => if_neg (not_le.2 hlow), fun hhigh => if_pos hhigh⟩
  · rw [exec_exa, execExa, exec_dxa, execDxa, hopt, needs_false, needs_false]
    exact ⟨rfl, rfl⟩

/-- Settles O51: each sets its indicators, which is what its definition says. -/
theorem haltCarryAndInterruptEnable : Obligations.HaltCarryAndInterruptEnable := by
  unfold Obligations.HaltCarryAndInterruptEnable
  exact ⟨⟨rfl, rfl, rfl, fun s => ⟨rfl, rfl, rfl⟩⟩, fun s => ⟨exec_enb s, exec_inh s⟩⟩

/-- An option is there for a key bit unless the bit is set and the option is absent (R228). -/
theorem present_or_not_eq_true {present b : Bool} : (present || !b) = true ↔ present = true ∨ b = false := by
  rw [Bool.or_eq_true, Bool.not_eq_true']

/-- Settles O53: the two options that OTK asks for in turn, then the bound on P. -/
theorem otkScattersTheKeys : Obligations.OtkScattersTheKeys := by
  unfold Obligations.OtkScattersTheKeys
  intro s
  rw [exec_otk, execOtk]
  refine ⟨fun hhsa hbit => ?_, fun hhsa hext hbit => ?_, fun hhsa hpmi hbit hhigh => ?_, fun hhsa hext hleave => ?_⟩
  · rw [hhsa, hbit]
    rfl
  · rw [present_or_not_eq_true.2 hhsa, needs_true, hext, hbit]
    rfl
  · rw [present_or_not_eq_true.2 hhsa, needs_true, present_or_not_eq_true.2 (.inr hbit), needs_true, if_pos]
    rw [hpmi, hbit, decide_eq_true (show upperMemory ≤ s.p.toNat from hhigh)]
    rfl
  · rw [present_or_not_eq_true.2 hhsa, needs_true, present_or_not_eq_true.2 hext, needs_true, if_neg]
    rw [Bool.and_eq_true, Bool.and_eq_true, Bool.not_eq_true', decide_eq_true_iff]
    rintro ⟨⟨hpmi, hbit⟩, hhigh⟩
    rcases hleave with h | h | h
    · exact absurd hpmi (by rw [h]; decide)
    · exact absurd h (by rw [hbit]; decide)
    · exact absurd hhigh (not_le.2 h)

/-! ### Input and output (R240 to R247) -/

theorem exec_ocp (code : IoCode) (s : State) : exec (.ocp code) s = execOcp code s := rfl
theorem exec_sks (code : IoCode) (s : State) : exec (.sks code) s = execSks code s := rfl
theorem exec_ina (code : IoCode) (s : State) : exec (.ina code) s = execIna code s := rfl
theorem exec_ota (code : IoCode) (s : State) : exec (.ota code) s = execOta code s := rfl
theorem exec_smk (group : MaskGroup) (s : State) : exec (.smk group) s = execSmk group s := rfl

/-- A recorded question and a skip on its answer: history and P are those of before the question. -/
theorem skipIf_record {s u : State} (hu : ∃ k n, u = (s.setScript k).setDraws n) (c : Bool) (e : IoEvent) :
    skipIf c (record e u) =
      (u.setEvents (s.events ++ [e])).setP (if c then wrapAddr s.aw (s.p.toNat + 1) else s.p) := by
  obtain ⟨k, n, rfl⟩ := hu
  exact skipIf_eq c _

/-- Settles O55: the recorded calls, and SKS as a recorded question with a skip on its answer. -/
theorem ocpSmkAndSks : Obligations.OcpSmkAndSks := by
  unfold Obligations.OcpSmkAndSks
  refine ⟨fun code s => ⟨exec_ocp code s, exec_smk .mask s, exec_smk .mask2 s⟩, fun code s u sense hask => ?_⟩
  have hframe := askSense_frame code.f code.d s
  rw [hask] at hframe
  refine ⟨hframe, fun hnone => ?_, ?_⟩
  · rw [askSense, if_pos hnone] at hask
    cases hask
    exact ⟨rfl, rfl⟩
  · rw [exec_sks, execSks, hask]
    exact congrArg _ (skipIf_record hframe _ _)

/-- (F7) is bit 7 of the word of INA (R88, R243). -/
theorem bit_encode_ina_seven (code : IoCode) : bit (encode (.ina code)) 7 = code.f.getLsbD 3 := by
  rw [encode, ioWord, bit, BitVec.getLsbD_append, BitVec.getLsbD_append]
  rfl

/-- Settles O56: INA and OTA as recorded questions, with what they do on each answer. -/
theorem inaAndOta : Obligations.InaAndOta := by
  unfold Obligations.InaAndOta
  refine ⟨fun code s u ready data hask => ?_, fun code s u ready hask => ?_⟩
  · have hframe := askInput_frame code.f code.d s
    rw [hask] at hframe
    refine ⟨hframe, fun hnone => ?_, ?_⟩
    · rw [askInput, if_pos hnone] at hask
      cases hask
      exact ⟨rfl, rfl⟩
    · obtain ⟨k, n, rfl⟩ := hframe
      rw [exec_ina, execIna, hask, bit_encode_ina_seven]
      cases ready <;> rfl
  · have hframe := askOutput_frame code.f code.d s.a s
    rw [hask] at hframe
    refine ⟨hframe, fun hnone => ?_, ?_⟩
    · rw [askOutput, if_pos hnone] at hask
      cases hask
      exact ⟨rfl, rfl⟩
    · rw [exec_ota, execOta, hask]
      exact congrArg _ (skipIf_record hframe _ _)

end Sys2Proof.Machine
end
